-- ==== Sys2Proof/Word.lean ====
section
/-! DEFINITION. The words, numbers and fixed-length tables of the KP220. -/

namespace Sys2Proof

/-- One byte of a frame, an operand or a result. -/
abbrev Byte := BitVec 8

/-- A version or a generation (R1, R40). -/
abbrev Half := BitVec 16

/-- A value word, a commit count or a history digest (R1, R40). -/
abbrev Word := BitVec 32

/-- A station number, 0 to 15 (00 section 0.7). -/
abbrev Station := Fin 16

/-- A segment number, 0 to 15 (00 section 0.7). -/
abbrev Segment := Fin 16

/-- A record index, 0 to 255 (00 section 0.7). -/
abbrev Index := Fin 256

/-- Levels of the line in the order read: `true` is recessive (logic 1), `false` dominant (R139). -/
abbrev Levels := List Bool

/-- A table filled by a function of the index. -/
@[irreducible] def tab {α : Type} {n : Nat} (f : Fin n → α) : Vector α n :=
  ⟨⟨List.ofFn f⟩, by simp⟩

/-- A table with one entry replaced. -/
def put {α : Type} {n : Nat} (v : Vector α n) (i : Fin n) (x : α) : Vector α n :=
  v.set i.val x i.isLt

@[simp] theorem tab_getElem {α : Type} {n : Nat} (f : Fin n → α) (j : Nat) (h : j < n) :
    (tab f)[j] = f ⟨j, h⟩ := by
  simp [tab]

theorem put_getElem {α : Type} {n : Nat} (v : Vector α n) (i : Fin n) (x : α) (j : Nat) (h : j < n) :
    (put v i x)[j] = if j = i.val then x else v[j] := by
  simp [put, Vector.getElem_set, eq_comm]

@[simp] theorem put_getElem_same {α : Type} {n : Nat} (v : Vector α n) (i : Fin n) (x : α) :
    (put v i x)[i.val] = x := by
  simp [put_getElem]

theorem put_getElem_other {α : Type} {n : Nat} (v : Vector α n) (i j : Fin n) (x : α) (h : j ≠ i) :
    (put v i x)[j.val] = v[j.val] := by
  have : j.val ≠ i.val := fun e => h (Fin.ext e)
  simp [put_getElem, this]

end Sys2Proof
end

