-- ==== Sys2Proof/Config.lean ====
section
/-! DEFINITION. The eight configuration parameters, the part's fixed limits, and the one free value. -/

namespace Sys2Proof

/-- What the update engine does with a head refused too often (R58, R59). -/
inductive FailPolicy where
  | drop
  | hold
  deriving DecidableEq, Repr

/-- One set of the eight configuration parameters (R199). -/
structure Params where
  /-- PRESENCE_INTERVAL P, in milliseconds. -/
  presenceInterval : Nat
  lockN            : Nat
  unlockN          : Nat
  retryLimit       : Nat
  failPolicy       : FailPolicy
  yieldN           : Nat
  rejectBudget     : Nat
  donorEnable      : Bool
  deriving DecidableEq, Repr

/-- The defaults both sets take at a hard reset (R199). -/
def Params.defaults : Params where
  presenceInterval := 10
  lockN            := 3
  unlockN          := 3
  retryLimit       := 8
  failPolicy       := .drop
  yieldN           := 4
  rejectBudget     := 3
  donorEnable      := true

/-- Every parameter is in the range R199 gives it. -/
def Params.inRange (p : Params) : Bool :=
  decide (2 ≤ p.presenceInterval ∧ p.presenceInterval ≤ 250) &&
  decide (1 ≤ p.lockN ∧ p.lockN ≤ 15) &&
  decide (1 ≤ p.unlockN ∧ p.unlockN ≤ 7) &&
  decide (p.retryLimit ∈ [4, 8, 16, 32]) &&
  decide (p.yieldN ≤ 8) &&
  decide (1 ≤ p.rejectBudget ∧ p.rejectBudget ≤ 7)

/-- The four bit rates of the straps (R139, R195). -/
inductive BitRate where
  | kbit250
  | kbit500
  | mbit1
  | mbit2
  deriving DecidableEq, Repr

/-- The bit time in nanoseconds (R139). -/
def BitRate.bitTimeNs : BitRate → Nat
  | .kbit250 => 4000
  | .kbit500 => 2000
  | .mbit1   => 1000
  | .mbit2   => 500

namespace Config

/-- Outbound entries at most (R48). -/
def outboundLimit : Nat := 16

/-- Outbound entries and completion records together at most (R52). -/
def creditLimit : Nat := 32

/-- Events at most (R184). -/
def eventLimit : Nat := 16

/-- The lost-event count saturates here (R186). -/
def lostLimit : Nat := 255

/-- Failed requests and transfers in one stay in SYNCING that make the station STRANDED (R82, R116). -/
def attemptLimit : Nat := 4

/-- The recessive bit that makes the bus idle (R146). -/
def idleRun : Nat := 11

/-- The recessive run stops here (R146, R147). -/
def longRun : Nat := 22

/-- FREE VALUE (log 4). Where several timers fall due at one millisecond the spec leaves open which is taken first
(R202). The rank of timer `k` at millisecond `clock` is not known; the lower rank is taken first. -/
opaque expiryRank : (clock : Nat) → (k : Nat) → Nat

end Config

end Sys2Proof
end

