-- ==== Sys2Proof/Syntax.lean ====
section
/-! DEFINITION. Records, update operations, frames, and the commands: one constructor of `Instr` per row of the table. -/

namespace Sys2Proof

/-- A record's value: 16 bytes kept as four 32-bit words (R1). -/
structure Value where
  w0 : Word
  w1 : Word
  w2 : Word
  w3 : Word
  deriving DecidableEq, Repr

/-- The all-zero value. -/
def Value.zero : Value := ⟨0, 0, 0, 0⟩

/-- One record of the shared table (R1). -/
structure Rec where
  value    : Value
  version  : Half
  claimant : Option Station
  writer   : Option Station
  deriving DecidableEq, Repr

/-- A record after a zeroing (R1). -/
def Rec.zero : Rec := ⟨Value.zero, 0, none, none⟩

/-- The four update operations, each with the fields it carries (R49). -/
inductive Op where
  | write (value : Value)
  | cswap (expected : Half) (value : Value)
  | claim
  | release
  deriving DecidableEq, Repr

/-- The four lineage fields a PRESENCE or a SNAPSHOT carries (R159, R162). -/
structure Carried where
  generation : Half
  origin     : Station
  count      : Word
  digest     : Word
  deriving DecidableEq, Repr

/-- The contents of a frame by kind (R157, R159 to R162). The sender's number travels in the key. -/
inductive Frame where
  /-- `state` and `interval` are the bytes as carried (R159). -/
  | presence (state interval : Byte) (carried : Carried)
  | update (ticket : Byte) (op : Op) (index : Index)
  | wipe (generation : Half)
  | evict (target : Station)
  | syncRequest (start : Segment)
  | offer (joiner : Station) (start : Segment)
  | snapshot (joiner : Station) (segment : Segment) (carried : Carried) (records : Vector Rec 16)
  deriving DecidableEq, Repr

/-- The seven kinds (R157). -/
inductive Kind where
  | presence
  | update
  | wipe
  | evict
  | syncRequest
  | offer
  | snapshot
  deriving DecidableEq, Repr

/-- The kind of a frame. -/
def Frame.kind : Frame → Kind
  | .presence ..    => .presence
  | .update ..      => .update
  | .wipe ..        => .wipe
  | .evict ..       => .evict
  | .syncRequest .. => .syncRequest
  | .offer ..       => .offer
  | .snapshot ..    => .snapshot

/-- The eight operand bytes of CONFIGURE, in order (R172). -/
structure ConfigOperands where
  presenceInterval : Byte
  lockN            : Byte
  unlockN          : Byte
  retryLimit       : Byte
  failPolicy       : Byte
  yieldN           : Byte
  rejectBudget     : Byte
  donorEnable      : Byte
  deriving DecidableEq, Repr

/-- The commands: one constructor per row of spec/opcode_table.json. Where a command carries `line`, these are the levels read on
the bus since the last command that carried any, in the order read (log 8). -/
inductive Instr where
  /-- HARD_RESET: the levels of SN3-SN0 and BR1-BR0 at its end, and whether SCS# is low then (R195, R196, R183). -/
  | hardReset (sn : BitVec 4) (br : BitVec 2) (scsLow : Bool)
  | startUpClearComplete
  /-- TRANSACTION_TRUNCATED: the bits sampled on SDI since SCS# fell (R167). -/
  | transactionTruncated (bits : List Bool)
  | transactionEnd
  | status
  | configure (operands : ConfigOperands)
  | join
  | leave
  | readRecord (index : Index)
  | write (index : Index) (value : Value)
  | cswap (index : Index) (expected : Half) (value : Value)
  | claim (index : Index)
  | release (index : Index)
  | wipe
  | resume
  | discardHead
  | takeCompletion
  | takeEvent
  | readPeer (number : Byte)
  | watch (index : Index)
  | unwatch (index : Index)
  | setInterrupts (events completions : Byte)
  | badCommand (code : Byte)
  /-- OFFER_POINT: the bus is idle at the last level read (R146). -/
  | offerPoint (line : Levels := [])
  /-- LOST_ARBITRATION: the last level read mismatches the start bit or a key bit of the own frame (R149). -/
  | lostArbitration (line : Levels)
  /-- SPOILED_FRAME: the last level read mismatches the own frame after its key (R150). -/
  | spoiledFrame (line : Levels)
  /-- LOST_PLACE: the receiver of a bad frame loses its place at the last level read (R145). -/
  | lostPlace (line : Levels)
  /-- REGAIN_STEP: the last level read brings a station out of step back in step (R147). -/
  | regainStep (line : Levels)
  /-- The nine closes: the last level read is the second reject slot bit of the frame on the line, own or received (R141). -/
  | badFrameClose (line : Levels)
  | discardedClose (line : Levels)
  | updateClose (line : Levels)
  | evictClose (line : Levels)
  | wipeClose (line : Levels)
  | presenceClose (line : Levels)
  | syncRequestClose (line : Levels)
  | offerClose (line : Levels)
  | snapshotClose (line : Levels)
  | listenTimerExpiry
  | presenceTimer
  | offerTimerExpiry
  | segmentTimerExpiry
  | watchTimerExpiry (station : Station)
  /-- TRANSACTION_START: SCS# falls; the levels read before the host command of the transaction (log 19). -/
  | transactionStart (line : Levels := [])
  deriving DecidableEq, Repr

end Sys2Proof
end

