-- ==== Sys2Proof/Machine/Bits.lean ====
section
/-! DEFINITION. Byte order and bit order: most significant byte first, most significant bit first (R141, R158). -/

namespace Sys2Proof.Machine

/-- The byte that holds a number below 256. -/
def byteOf (n : Nat) : Byte := BitVec.ofNat 8 n

/-- Two bytes, the most significant first (R158). -/
def halfBytes (v : Half) : List Byte := [v.extractLsb' 8 8, v.extractLsb' 0 8]

/-- Four bytes, the most significant first (R158). -/
def wordBytes (v : Word) : List Byte :=
  [v.extractLsb' 24 8, v.extractLsb' 16 8, v.extractLsb' 8 8, v.extractLsb' 0 8]

/-- The number two bytes spell (R158). -/
def halfOf (b1 b0 : Byte) : Half := b1 ++ b0

/-- The number four bytes spell (R158). -/
def wordOf (b3 b2 b1 b0 : Byte) : Word := b3 ++ b2 ++ b1 ++ b0

/-- A value as sent: word 0 first (R158). -/
def valueBytes (v : Value) : List Byte :=
  wordBytes v.w0 ++ wordBytes v.w1 ++ wordBytes v.w2 ++ wordBytes v.w3

/-- The value sixteen bytes spell (R158). -/
def valueOf : List Byte → Option Value
  | [a3, a2, a1, a0, b3, b2, b1, b0, c3, c2, c1, c0, d3, d2, d1, d0] =>
    some ⟨wordOf a3 a2 a1 a0, wordOf b3 b2 b1 b0, wordOf c3 c2 c1 c0, wordOf d3 d2 d1 d0⟩
  | _ => none

/-- The byte of a station field; a field that names no station carries 0xFF (00 section 0.7). -/
def stationByte : Option Station → Byte
  | some x => byteOf x.val
  | none   => 0xFF

/-- A field of station form, or of segment form: 0 to 15 (R158). -/
def nibbleField (b : Byte) : Option (Fin 16) :=
  if h : b.toNat < 16 then some ⟨b.toNat, h⟩ else none

/-- A field of station or none form: 0 to 15, or 0xFF for none (R158). -/
def stationOrNoneField (b : Byte) : Option (Option Station) :=
  if b = 0xFF then some none else (nibbleField b).map some

/-- A field of record index form: every byte is legal (R158). -/
def indexOf (b : Byte) : Index := ⟨b.toNat, b.isLt⟩

/-- The lowest `n` bits of `v` in the order sent, most significant first (R141). `true` is 1. -/
def bitsOf : (n : Nat) → (v : Nat) → Levels
  | 0,     _ => []
  | n + 1, v => v.testBit n :: bitsOf n v

/-- The number a run of bits spells, most significant first (R141). -/
def numberOf (bits : Levels) : Nat :=
  bits.foldl (fun acc b => 2 * acc + b.toNat) 0

/-- The bits of a run of bytes in the order sent (R158). -/
def bytesBits (bytes : List Byte) : Levels :=
  bytes.flatMap fun b => bitsOf 8 b.toNat

/-- The first `n` bytes of a run of bits. -/
def bytesOf : (n : Nat) → Levels → List Byte
  | 0,     _    => []
  | n + 1, bits => byteOf (numberOf (bits.take 8)) :: bytesOf n (bits.drop 8)

end Sys2Proof.Machine
end

