-- ==== Sys2Proof/Machine/Frames.lean ====
section
/-! DEFINITION. Kinds, classes and payload layouts of the mirror bus, and the checks on a payload (Chapter 8). -/

namespace Sys2Proof.Machine

/-- Kind codes (R157). -/
def kindCode : Kind → BitVec 4
  | .presence    => 1
  | .update      => 2
  | .wipe        => 3
  | .evict       => 4
  | .syncRequest => 5
  | .offer       => 6
  | .snapshot    => 7

/-- The one class of each kind (R148, R157). -/
def kindClass : Kind → BitVec 2
  | .wipe        => 0
  | .evict       => 0
  | .offer       => 0
  | .syncRequest => 0
  | .presence    => 1
  | .update      => 2
  | .snapshot    => 3

/-- The kinds that form the history (R157). -/
def kindOrdered : Kind → Bool
  | .update => true
  | .evict  => true
  | _       => false

/-- Op codes (R160). -/
def opCode : Op → Byte
  | .write _   => 1
  | .cswap _ _ => 2
  | .claim     => 3
  | .release   => 4

/-- The bytes of an UPDATE after ticket, op and index (R160). -/
def opBytes : Op → List Byte
  | .write v   => valueBytes v
  | .cswap e v => halfBytes e ++ valueBytes v
  | .claim     => []
  | .release   => []

/-- The op an op byte and the bytes after the index spell, if the length fits the op (R160). -/
def opOf (code : Byte) (rest : List Byte) : Option Op :=
  if code = 1 then (valueOf rest).map .write
  else if code = 2 then
    match rest with
    | e1 :: e0 :: v => (valueOf v).map (.cswap (halfOf e1 e0))
    | _ => none
  else if code = 3 then (if rest = [] then some .claim else none)
  else if code = 4 then (if rest = [] then some .release else none)
  else none

/-- The eleven bytes of generation, origin, count and digest (R159, R162). -/
def carriedBytes (c : Carried) : List Byte :=
  halfBytes c.generation ++ [byteOf c.origin.val] ++ wordBytes c.count ++ wordBytes c.digest

/-- The lineage fields eleven bytes spell; the origin is of station form (R158, R159). -/
def carriedOf : List Byte → Option Carried
  | [g1, g0, o, c3, c2, c1, c0, d3, d2, d1, d0] =>
    (nibbleField o).map fun origin => ⟨halfOf g1 g0, origin, wordOf c3 c2 c1 c0, wordOf d3 d2 d1 d0⟩
  | _ => none

/-- The twenty bytes of a record (R162). -/
def recBytes (r : Rec) : List Byte :=
  valueBytes r.value ++ halfBytes r.version ++ [stationByte r.claimant, stationByte r.writer]

/-- The record twenty bytes spell; claimant and writer are of station or none form (R158, R162). -/
def recOf (bytes : List Byte) : Option Rec :=
  match valueOf (bytes.take 16), bytes.drop 16 with
  | some v, [v1, v0, c, w] =>
    match stationOrNoneField c, stationOrNoneField w with
    | some claimant, some writer => some ⟨v, halfOf v1 v0, claimant, writer⟩
    | _, _ => none
  | _, _ => none

/-- `n` records of twenty bytes each, and nothing after them (R162). -/
def recsOf : (n : Nat) → List Byte → Option (List Rec)
  | 0,     bytes => if bytes = [] then some [] else none
  | n + 1, bytes =>
    match recOf (bytes.take 20), recsOf n (bytes.drop 20) with
    | some r, some rs => some (r :: rs)
    | _, _ => none

/-- The sixteen records of a segment (R162). -/
def segmentOf16 (bytes : List Byte) : Option (Vector Rec 16) :=
  match recsOf 16 bytes with
  | some rs => if h : rs.length = 16 then some ⟨⟨rs⟩, by simpa using h⟩ else none
  | none    => none

/-- A frame's payload (R159 to R162). -/
def payloadOf : Frame → List Byte
  | .presence state interval c  => state :: interval :: carriedBytes c
  | .update ticket op index     => ticket :: opCode op :: byteOf index.val :: opBytes op
  | .wipe g                     => halfBytes g
  | .evict x                    => [byteOf x.val]
  | .syncRequest k              => [byteOf k.val]
  | .offer j k                  => [byteOf j.val, byteOf k.val]
  | .snapshot j k c rs          =>
    byteOf j.val :: byteOf k.val :: (carriedBytes c ++ rs.toList.flatMap recBytes)

/-- The frame a kind code and a payload spell, if the code names a kind, the length fits it, and every field is in its form
(R157, R158, R164). -/
def frameOf (kind : BitVec 4) (payload : List Byte) : Option Frame :=
  if kind = 1 then
    match payload with
    | state :: interval :: rest => (carriedOf rest).map (.presence state interval)
    | _ => none
  else if kind = 2 then
    match payload with
    | ticket :: op :: index :: rest => (opOf op rest).map fun o => .update ticket o (indexOf index)
    | _ => none
  else if kind = 3 then
    match payload with
    | [g1, g0] => some (.wipe (halfOf g1 g0))
    | _ => none
  else if kind = 4 then
    match payload with
    | [x] => (nibbleField x).map .evict
    | _ => none
  else if kind = 5 then
    match payload with
    | [k] => (nibbleField k).map .syncRequest
    | _ => none
  else if kind = 6 then
    match payload with
    | [j, k] =>
      match nibbleField j, nibbleField k with
      | some joiner, some start => some (.offer joiner start)
      | _, _ => none
    | _ => none
  else if kind = 7 then
    match payload with
    | j :: k :: rest =>
      match nibbleField j, nibbleField k, carriedOf (rest.take 11), segmentOf16 (rest.drop 11) with
      | some joiner, some segment, some c, some rs => some (.snapshot joiner segment c rs)
      | _, _, _, _ => none
    | _ => none
  else none

end Sys2Proof.Machine
end

