-- ==== Sys2Proof/Machine/Line.lean ====
section
/-! DEFINITION. A frame on the line: the arbitration key, inserted bits, the CRC-16, where the frame ends, and how a receiver
sorts what it read (Chapters 2, 7 and 8). A level is `true` for recessive. -/

namespace Sys2Proof.Machine

/-! ### The CRC-16 (R143) -/

/-- The CRC register `r` after a run of field bits: each is combined with the register's top bit, the register shifts left, and
the generator is combined where the combined bit was 1 (R143). -/
def crc16From (r : Half) : Levels → Half
  | [] => r
  | b :: bits => if Bool.xor r.msb b then crc16From ((r <<< 1) ^^^ 0x1021) bits else crc16From (r <<< 1) bits

/-- The CRC over a run of field bits; the register starts at 0xFFFF (R143). -/
def crc16 (bits : Levels) : Half := crc16From 0xFFFF bits

/-! ### Inserted bits (R142) -/

/-- The run of equal bits a sender has sent or a receiver has read, and whether six equal bits stood without an inserted bit
after them. -/
structure Run where
  level  : Bool
  count  : Nat
  broken : Bool
  deriving DecidableEq, Repr

/-- After the start bit, which is dominant and counted (R142). -/
def Run.start : Run := ⟨false, 1, false⟩

/-- One more bit sent or kept as a field bit. -/
def Run.push (r : Run) (b : Bool) : Run :=
  if b = r.level then { r with count := r.count + 1 } else { r with level := b, count := 1 }

/-- The bits a sender drives for a run of field bits: after six equal bits, one of the opposite level, which begins a new
run. Nothing follows a run of six that ends the field bits (R142). -/
def stuff : Run → Levels → Levels
  | _, [] => []
  | r, b :: bs =>
    if r.count = 6 then
      (!r.level) :: b :: stuff (Run.push { r with level := !r.level, count := 1 } b) bs
    else b :: stuff (r.push b) bs

/-! ### What a sender drives (R141, R148) -/

/-- The arbitration key: the class, then the sender's station number (R148). -/
def keyBits (sender : Station) (k : Kind) : Levels :=
  bitsOf 2 (kindClass k).toNat ++ bitsOf 4 sender.val

/-- The field bits the CRC covers: kind, payload length, payload (R143, R163). -/
def coveredBits (f : Frame) : Levels :=
  bitsOf 4 (kindCode f.kind).toNat ++ bitsOf 10 (payloadOf f).length ++ bytesBits (payloadOf f)

/-- All field bits from the key through the CRC (R141). -/
def fieldBits (sender : Station) (f : Frame) : Levels :=
  keyBits sender f.kind ++ coveredBits f ++ bitsOf 16 (crc16 (coveredBits f)).toNat

/-- What the sender drives and reads back, from the start bit through the end delimiter (R141, R150). -/
def sentBits (sender : Station) (f : Frame) : Levels :=
  false :: stuff Run.start (fieldBits sender f) ++ [true, true, true]

/-- A frame as the line carries it to the end of the reject slot, whose two levels are `slot1` and `slot2` (R141). -/
def lineOf (sender : Station) (f : Frame) (slot1 slot2 : Bool) : Levels :=
  sentBits sender f ++ [slot1, slot2]

/-- The position of the last key bit in what the sender drives, the start bit being 0; inserted bits among the key bits are
read back like them (R142, R149), one after the last key bit is not (log 29). -/
def keyEnd (sender : Station) (k : Kind) : Nat := (stuff Run.start (keyBits sender k)).length

/-- The level a spoiled sender drives before its end delimiter, by the recessive bits it has read in a row: a dominant fill bit after
ten of them (R150). -/
def fillLevel (run : Nat) : Bool := decide (run ≠ 10)

/-- The recessive bits in a row after one more level read; a fill bit starts the count afresh (R150). -/
def fillNext (run : Nat) (read : Bool) : Nat :=
  if run = 10 then 0 else if read then run + 1 else 0

/-- What a spoiled sender drives from the bit after the mismatch until its end delimiter, `run` recessive bits having been counted.
`others` holds what the other stations drive. The machine counts from 0 at the bit after the mismatch; whether a mismatch bit that
read recessive is the first of the ten is the model's choice (log 25). -/
def fillBits : (run : Nat) → (others : Levels) → Levels
  | _, [] => []
  | run, o :: others => fillLevel run :: fillBits (fillNext run (fillLevel run && o)) others

/-! ### What a receiver reads (R28, R29, R141, R142, R144) -/

/-- A receiver part-way through a frame: the fields read so far, inserted bits removed, and where it places the end
(R140, R142, R144). -/
structure Reader where
  /-- Field bits read so far, from the key on, newest first. -/
  fields    : Levels
  /-- Field bits still to come before the end of the length field or, once it is read, of the CRC. -/
  left      : Nat
  /-- The payload length in bytes as read, once the length field is read. -/
  placed    : Option Nat
  /-- The run of equal bits (R142). -/
  run       : Run
  /-- The levels read after the last CRC bit: delimiter and slot. -/
  tail      : Levels
  /-- Recessive bits read in a row. -/
  recessive : Nat
  deriving DecidableEq, Repr

/-- After the start bit. The key, the kind and the length field are the first 20 field bits (R141). -/
def Reader.start : Reader := ⟨[], 20, none, Run.start, [], 0⟩

/-- One more field bit. At the end of the length field the end is placed: eight bits for each byte and sixteen of CRC follow
(R144). -/
def Reader.take (r : Reader) (b : Bool) (run : Run) : Reader :=
  let fields := b :: r.fields
  if r.left = 1 then
    match r.placed with
    | none =>
      let length := numberOf (fields.take 10).reverse
      { r with fields := fields, left := 8 * length + 16, placed := some length, run := run }
    | some _ => { r with fields := fields, left := 0, run := run }
  else { r with fields := fields, left := r.left - 1, run := run }

/-- One more level read. After six equal bits the next bit is removed, and where it has the same level as the six the frame is
broken and the bit is kept (R142). After a seventh equal bit no bit is removed until the level changes (log 10). -/
def Reader.hear (r : Reader) (b : Bool) : Reader :=
  let r := { r with recessive := if b then r.recessive + 1 else 0 }
  if r.left = 0 then { r with tail := r.tail ++ [b] }
  else if r.run.count = 6 then
    if b = r.run.level then r.take b { r.run with count := 7, broken := true }
    else { r with run := { r.run with level := b, count := 1 } }
  else r.take b (r.run.push b)

/-- A run of levels read. -/
def Reader.hearAll (r : Reader) : Levels → Reader
  | [] => r
  | b :: line =>
    match r.hear b with
    | ⟨fields, left, placed, run, tail, recessive⟩ => Reader.hearAll ⟨fields, left, placed, run, tail, recessive⟩ line

/-- A frame as read to the end of its reject slot, whose place follows from the length as read (R144). -/
structure Reading where
  keyClass  : BitVec 2
  sender    : Station
  kind      : BitVec 4
  payload   : List Byte
  /-- The CRC read equals the receiver's own register (R143). -/
  crcGood   : Bool
  /-- Six equal bits were received without an inserted bit (R142). -/
  broken    : Bool
  /-- All three end delimiter bits were recessive (R141). -/
  delimiter : Bool
  /-- A dominant level was read in the reject slot (R141). -/
  rejected  : Bool
  deriving DecidableEq, Repr

/-- What a receiver has read, from the third delimiter bit on. A slot bit not yet read counts as recessive. -/
def Reader.reading (r : Reader) : Option Reading :=
  match r.placed, r.tail with
  | some length, d1 :: d2 :: d3 :: slot =>
    let bits := r.fields.reverse
    let body := bits.drop 20
    some
      { keyClass  := BitVec.ofNat 2 (numberOf (bits.take 2))
        sender    := Fin.ofNat 16 (numberOf ((bits.drop 2).take 4))
        kind      := BitVec.ofNat 4 (numberOf ((bits.drop 6).take 4))
        payload   := bytesOf length body
        crcGood   := decide ((crc16 ((bits.drop 6).take (14 + 8 * length))).toNat = numberOf (body.drop (8 * length)))
        broken    := r.run.broken
        delimiter := d1 && d2 && d3
        rejected  := !slot.all id }
  | _, _ => none

/-- The three receptions (R28). -/
inductive Reception where
  | intact (frame : Frame)
  | badCrc
  | malformed
  deriving DecidableEq, Repr

/-- How a reading is sorted at the end delimiter (R28, R164). -/
def Reading.sort (r : Reading) : Reception :=
  if r.broken || !r.delimiter then .malformed
  else
    match frameOf r.kind r.payload with
    | none => .malformed
    | some f =>
      if r.keyClass ≠ kindClass f.kind then .malformed
      else if r.crcGood then .intact f
      else .badCrc

/-- The frame read is intact: the sender's number, the frame, and whether the slot was driven (R28, R29). -/
def Reader.intact (r : Reader) : Option (Station × Frame × Bool) :=
  match r.reading with
  | some rd =>
    match rd.sort with
    | .intact f => some (rd.sender, f, rd.rejected)
    | _ => none
  | none => none

/-- The frame read is bad, its CRC or its form (R28); decided at the end delimiter. -/
def Reader.bad (r : Reader) : Bool := r.intact.isNone

/-- The frame read is intact and its slot stayed recessive (R29). -/
def Reader.committed (r : Reader) : Option (Station × Frame) :=
  match r.intact with
  | some (x, f, false) => some (x, f)
  | _ => none

/-- The frame read is intact and its slot was driven (R29). -/
def Reader.discarded (r : Reader) : Option (Station × Frame) :=
  match r.intact with
  | some (x, f, true) => some (x, f)
  | _ => none

/-- The second slot bit has been read: the frame closes (R141). -/
def Reader.complete (r : Reader) : Bool := decide (r.tail.length = 5)

/-- The levels of one frame, start bit to second slot bit, as a receiver reads them; none where the end it places lies elsewhere
(R144). -/
def readerOf : Levels → Option Reader
  | false :: line =>
    let r := Reader.start.hearAll line
    if r.complete then some r else none
  | _ => none

/-- What a receiver reads from the levels of one frame. -/
def readLine (line : Levels) : Option Reading := (readerOf line).bind Reader.reading

/-- A line that reads as an intact frame whose slot stayed recessive: the sender's number and the frame (R29). -/
def committedFrame (line : Levels) : Option (Station × Frame) := (readerOf line).bind Reader.committed

/-- A line that reads as an intact frame whose slot was driven (R29). -/
def discardedFrame (line : Levels) : Option (Station × Frame) := (readerOf line).bind Reader.discarded

/-- A line that reads as a bad frame: bad CRC or malformed (R28). -/
def badLine (line : Levels) : Bool :=
  match readerOf line with
  | some r => r.bad
  | none => false

end Sys2Proof.Machine
end

