-- ==== Sys2Proof/Machine/State.lean ====
section
/-! DEFINITION. The station's state, block by block, and the state right after a hard reset. -/

namespace Sys2Proof.Machine

/-! ### Table unit (Chapter 1, Chapter 10) -/

/-- The table unit: the replica and its flags (R1, R2, R189, R190). -/
structure TableUnit where
  records       : Vector Rec 256
  covered       : Vector Bool 16
  watch         : Vector Bool 256
  changePending : Vector Bool 256
  deriving DecidableEq, Repr

/-! ### Update engine (Chapter 3) -/

/-- An accepted change not yet settled (R49). -/
structure Entry where
  ticket   : Byte
  op       : Op
  index    : Index
  attempts : Nat
  deriving DecidableEq, Repr

/-- How a ticket ended (R63). -/
inductive Result where
  | applied
  | unchanged
  | refusedClaimed
  | refusedVersion
  | refusedNotClaimant
  | droppedRetries
  | discarded
  | cancelledResync
  | cancelledWipe
  | cancelledLeave
  deriving DecidableEq, Repr

/-- A completion record (R63). -/
structure Completion where
  ticket       : Byte
  op           : Op
  index        : Index
  result       : Result
  versionAfter : Option Half
  countAfter   : Option Word
  deriving DecidableEq, Repr

/-- The update engine (R48). Both queues hold the oldest first. -/
structure UpdateEngine where
  outbound    : List Entry
  completions : List Completion
  ticket      : Byte
  held        : Bool
  deriving DecidableEq, Repr

/-! ### Sync controller (Chapters 2, 4 and 5) -/

/-- A history position; the station holds a lineage while `origin` is a station (R40). -/
structure Position where
  generation : Half
  origin     : Option Station
  count      : Word
  digest     : Word
  deriving DecidableEq, Repr

/-- The position of a station that holds no lineage (R40). -/
def Position.none : Position := ⟨0, Option.none, 0, 0⟩

/-- The sub-state of SYNCING with the joiner record's donor: none in REQUESTING (R97). -/
inductive SubState where
  | requesting
  | receiving (donor : Station)
  deriving DecidableEq, Repr

/-- The station state (R73). SYNCING carries the joiner record, which is present there and nowhere else (R97). -/
inductive StationState where
  | idle
  | listen
  | syncing (sub : SubState) (next : Segment) (attempts : Nat)
  | synced
  | stranded
  deriving DecidableEq, Repr

/-- A timer: stopped, or running with its remaining milliseconds (R201). -/
abbrev Timer := Option Nat

/-- The donor record; a SNAPSHOT is pending exactly while it is set (R98, R105). -/
structure DonorRecord where
  joiner   : Station
  next     : Segment
  attempts : Nat
  deriving DecidableEq, Repr

/-- A pending OFFER (R98, R102). -/
structure OfferSlot where
  joiner : Station
  start  : Segment
  deriving DecidableEq, Repr

/-- The sync controller (R73, R97, R98). -/
structure SyncController where
  state         : StationState
  leavePending  : Bool
  position      : Position
  listenTimer   : Timer
  evidenceHeard : Bool
  lowerHeard    : Bool
  /-- Set with the new generation to carry (R73, R89). -/
  wipePending   : Option Half
  /-- A SYNC_REQUEST is pending (R99). -/
  syncRequest   : Bool
  donor         : Option DonorRecord
  offer         : Option OfferSlot
  offerTimer    : Timer
  segmentTimer  : Timer
  deriving DecidableEq, Repr

/-! ### Peer unit (Chapter 6) -/

/-- The state of a peer entry (R120). -/
inductive PeerState where
  | absent
  | arriving
  | present
  | fading
  deriving DecidableEq, Repr

/-- A state as a PRESENCE reports it (R120, R159). -/
inductive Reported where
  | listen
  | syncing
  | synced
  | stranded
  deriving DecidableEq, Repr

/-- The outcome of the last lineage comparison with a peer (R131). -/
inductive Relation where
  | unknown
  | consistent
  | lagging
  deriving DecidableEq, Repr

/-- A peer entry (R120). -/
structure Peer where
  state        : PeerState
  hits         : Nat
  misses       : Nat
  advertisedP  : Nat
  reported     : Option Reported
  lastPosition : Position
  relation     : Relation
  evictPending : Bool
  watchTimer   : Timer
  deriving DecidableEq, Repr

/-- An entry after a hard reset and at JOIN (R120). -/
def Peer.fresh : Peer := ⟨.absent, 0, 0, 0, none, Position.none, .unknown, false, none⟩

/-- The peer unit (R120). The entry at the station's own number is SELF and is never written (R121, log 14). -/
structure PeerUnit where
  entries         : Vector Peer 16
  presenceTimer   : Timer
  presencePending : Bool
  deriving DecidableEq, Repr

/-! ### Bus interface and transmit selector (Chapters 2 and 7) -/

/-- How a receiver lost its place in a bad frame (R145). -/
inductive PlaceLoss where
  /-- Eleven recessive bits in a row before the end delimiter it placed. -/
  | elevenRecessive
  /-- A dominant bit in the intermission it placed, or after it before the bus is idle. -/
  | dominantAfterEnd
  deriving DecidableEq, Repr

/-- What brings a station out of step back in step (R147). -/
inductive StepGain where
  /-- A dominant bit after at least eleven recessive bits, taken as a start bit. -/
  | startBit
  /-- A run of 22 recessive bits. -/
  | longRun
  deriving DecidableEq, Repr

/-- What the level read last brings about beside the bus interface's own counting: the events of the line in the table of commands.
-/
inductive LineEvent where
  | offerPoint
  | lostArbitration
  | spoiled
  | lostPlace (how : PlaceLoss)
  | regain (how : StepGain)
  | close
  deriving DecidableEq, Repr

/-- The own frame on the line (R140, R150, R153). -/
structure OwnFrame where
  /-- As filled in at its offer point. -/
  frame    : Frame
  /-- Bits read back so far, start bit to reject slot, inserted bits included. -/
  position : Nat
  /-- The readback has found a mismatch after the key; with it the recessive bits read in a row since then or since the last fill
  bit (R150, log 25). -/
  spoil    : Option Nat
  /-- A dominant level was read in the reject slot (R141). -/
  rejected : Bool
  deriving DecidableEq, Repr

/-- The current frame (R140). -/
inductive Current where
  | idle
  /-- A frame of another station: the fields read so far and the placed length; `closes` says whether it will have a close at this
  station (R27), `rejecting` that the reject decision taken at its end delimiter is to reject it (R34, R141). -/
  | receiving (reader : Reader) (closes rejecting : Bool)
  | own (o : OwnFrame)
  deriving DecidableEq, Repr

/-- The bus interface (R35, R140). -/
structure BusInterface where
  inStep       : Bool
  recessiveRun : Nat
  current      : Current
  spoilStreak  : Nat
  rejectStreak : Nat
  /-- The frame that ended last was bad at this receiver, and the bus has not been idle since (R145). -/
  badTail      : Bool
  /-- The MODEL's own: this station drove the reject slot of the frame that closed last (R34, R38; log 13). -/
  slotDriven   : Bool
  /-- The MODEL's own: what the level read last brings about, not yet given as a command (log 28). -/
  due          : Option LineEvent
  deriving DecidableEq, Repr

/-- The transmit selector (R154, R155). -/
structure TransmitSelector where
  winStreak : Nat
  sitOut    : Bool
  deriving DecidableEq, Repr

/-! ### Host port (Chapters 9, 10 and 11) -/

/-- A station state as STATE_CHANGED and STATUS name it (R171, R179). -/
inductive Mode where
  | idle
  | listen
  | syncing
  | synced
  | stranded
  deriving DecidableEq, Repr

/-- The causes of STATE_CHANGED (R94, R179). -/
inductive Cause where
  | founded
  | transferDone
  | wiped
  | behind
  | missedFrame
  | attemptsExhausted
  | syncedPeerHeard
  | joined
  | left
  deriving DecidableEq, Repr

/-- The causes of TRANSFER_RESTART (R179). -/
inductive RestartCause where
  | countMismatch
  | timeout
  | donorLost
  deriving DecidableEq, Repr

/-- The reasons of DONOR_ENDED (R179). -/
inductive EndReason where
  | done
  | failed
  | joinerLost
  | reRequested
  | wiped
  | leftSynced
  deriving DecidableEq, Repr

/-- An event record (R184). -/
inductive Event where
  | stateChanged (new : Mode) (cause : Cause)
  | peerUp (station : Station)
  | peerDown (station : Station)
  | peerEvicted (station : Station) (sender : Station)
  | selfEvicted (sender : Station)
  | recordChanged (index : Index) (writer : Station)
  | queueHeld (ticket : Byte)
  | wiped (sender : Station) (generation : Half)
  | transferRestart (cause : RestartCause)
  | donorEnded (joiner : Station) (reason : EndReason)
  | numberClash
  deriving DecidableEq, Repr

/-- Where the host port stands in a transaction (R165, R166, R183). -/
inductive PortPhase where
  /-- SCS# is high. -/
  | idle
  /-- SCS# is low and the command is being read. -/
  | command
  /-- The command has been taken; SDO drives the result buffer. -/
  | result
  /-- SCS# was low when a reset ended: SCK is ignored until it rises (R183). -/
  | ignoring
  deriving DecidableEq, Repr

/-- The host port (R167, R183, R184, R197, R199). -/
structure HostPort where
  /-- The start-up clear runs (R197). -/
  starting         : Bool
  phase            : PortPhase
  result           : List Byte
  priorTruncated   : Bool
  events           : List Event
  lost             : Nat
  eventEnable      : Bool
  completionEnable : Bool
  stored           : Params
  inEffect         : Params
  deriving DecidableEq, Repr

/-- The sampled straps (R195). -/
structure Straps where
  number  : Station
  bitRate : BitRate
  deriving DecidableEq, Repr

/-! ### The station -/

/-- The station. `pending` is the queue of commands, first in, first out; `clock` counts the milliseconds passed on empty
queues and is the model's own (log 4). -/
structure State where
  straps   : Straps
  table    : TableUnit
  update   : UpdateEngine
  sync     : SyncController
  peers    : PeerUnit
  bus      : BusInterface
  selector : TransmitSelector
  port     : HostPort
  clock    : Nat
  pending  : List Instr
  deriving DecidableEq, Repr

/-- The reasons the machine could stop with a fault: there are none. Every event and command of the spec has a next state. -/
inductive Fault where
  deriving DecidableEq, Repr

/-- The reasons a command could be refused by the model. -/
inductive Refusal where
  /-- Raised by an arm of `exec` that has no meaning yet; safe, since nothing is claimed of it. No arm raises it. -/
  | notModelled (mnemonic : String)
  deriving DecidableEq, Repr

/-! ### Hard-reset values -/

/-- The table unit after a hard reset (R24). The records are cleared by the start-up clear (log 2). -/
def TableUnit.reset : TableUnit where
  records       := tab fun _ => Rec.zero
  covered       := tab fun _ => false
  watch         := tab fun _ => false
  changePending := tab fun _ => false

/-- The update engine after a hard reset (R71). -/
def UpdateEngine.reset : UpdateEngine where
  outbound    := []
  completions := []
  ticket      := 0
  held        := false

/-- The sync controller after a hard reset (R73, R96, R119). -/
def SyncController.reset : SyncController where
  state         := .idle
  leavePending  := false
  position      := Position.none
  listenTimer   := none
  evidenceHeard := false
  lowerHeard    := false
  wipePending   := none
  syncRequest   := false
  donor         := none
  offer         := none
  offerTimer    := none
  segmentTimer  := none

/-- The peer unit after a hard reset (R120, R138). -/
def PeerUnit.reset : PeerUnit where
  entries         := tab fun _ => Peer.fresh
  presenceTimer   := none
  presencePending := false

/-- The bus interface after a hard reset (R35, R47, R140, R147). -/
def BusInterface.reset : BusInterface where
  inStep       := false
  recessiveRun := 0
  current      := .idle
  spoilStreak  := 0
  rejectStreak := 0
  badTail      := false
  slotDriven   := false
  due          := none

/-- The transmit selector after a hard reset (R154, R155). -/
def TransmitSelector.reset : TransmitSelector where
  winStreak := 0
  sitOut    := false

/-- The host port after a hard reset (R183, R184, R197, R199). -/
def HostPort.reset : HostPort where
  starting         := true
  phase            := .idle
  result           := []
  priorTruncated   := false
  events           := []
  lost             := 0
  eventEnable      := false
  completionEnable := false
  stored           := Params.defaults
  inEffect         := Params.defaults

/-- The machine right after a hard reset: the start-up clear has begun. The strap levels are the pins' (log 1). -/
def State.reset : State where
  straps   := ⟨0, .kbit250⟩
  table    := TableUnit.reset
  update   := UpdateEngine.reset
  sync     := SyncController.reset
  peers    := PeerUnit.reset
  bus      := BusInterface.reset
  selector := TransmitSelector.reset
  port     := HostPort.reset
  clock    := 0
  pending  := []

end Sys2Proof.Machine
end

