-- ==== Sys2Proof/Machine/History.lean ====
section
/-! DEFINITION. The history digest, the order of history positions, and the evaluation of an update on one record. -/

namespace Sys2Proof.Machine

/-! ### The fold (R42) -/

/-- One shift of the digest register (R42). -/
def foldShift (r : Word) : Word :=
  if r.msb then (r <<< 1) ^^^ 0x04C11DB7 else r <<< 1

/-- One byte taken into the digest register: combined with its top eight bits, then eight shifts (R42). -/
def foldByte (r : Word) (b : Byte) : Word :=
  Nat.repeat foldShift 8 (r ^^^ (b.setWidth 32 <<< 24))

/-- The digest after the four bytes of an ordered frame (R42). -/
def foldDigest (digest : Word) (bytes : List Byte) : Word := bytes.foldl foldByte digest

/-- The four bytes folded for an UPDATE (R42). -/
def updateFoldBytes (sender : Station) (ticket : Byte) (index : Index) : List Byte :=
  [byteOf sender.val, 2, ticket, byteOf index.val]

/-- The four bytes folded for an EVICT (R42). -/
def evictFoldBytes (sender target : Station) : List Byte :=
  [byteOf sender.val, 4, 0, byteOf target.val]

/-- A position after one more ordered frame: the count rises by one and the frame is folded (R41, R42). -/
def Position.advance (p : Position) (bytes : List Byte) : Position :=
  { p with count := p.count + 1, digest := foldDigest p.digest bytes }

/-- A position as a frame carries it. The origin of a station that holds no lineage reads 0; no frame carries such a position
(log 17). -/
def Position.carried (p : Position) : Carried :=
  ⟨p.generation, p.origin.getD 0, p.count, p.digest⟩

/-- The position a station takes over from a frame (R110, R124). -/
def positionOf (c : Carried) : Position :=
  ⟨c.generation, some c.origin, c.count, c.digest⟩

/-- The zero lineage fields of a PRESENCE from a station that is not SYNCED (R123). -/
def carriedZero : Carried := ⟨0, 0, 0, 0⟩

/-! ### The order of positions (R85) -/

/-- Generation `a` is later than `b` (R85). -/
def laterGeneration (a b : Half) : Bool :=
  let d := (a - b).toNat
  decide (1 ≤ d ∧ d ≤ 32767) || decide (d = 32768 ∧ b.toNat < a.toNat)

/-- Count `a` is higher than `b` (R85). -/
def higherCount (a b : Word) : Bool :=
  let d := (a - b).toNat
  decide (1 ≤ d ∧ d ≤ 2147483647) || decide (d = 2147483648 ∧ b.toNat < a.toNat)

/-- How one position stands to another (R85). -/
inductive Comparison where
  | ahead
  | behind
  | equal
  deriving DecidableEq, Repr

/-- How position `a` stands to position `b`: generation, then count, then origin, then digest (R85). -/
def comparePositions (a b : Carried) : Comparison :=
  if a.generation ≠ b.generation then
    if laterGeneration a.generation b.generation then .ahead else .behind
  else if a.count ≠ b.count then
    if higherCount a.count b.count then .ahead else .behind
  else if a.origin ≠ b.origin then
    if a.origin < b.origin then .ahead else .behind
  else if a.digest ≠ b.digest then
    if a.digest.toNat < b.digest.toNat then .ahead else .behind
  else .equal

/-! ### Evaluation of an update (R6 to R9) -/

/-- The record is claimed by a station other than `sender` (R6). -/
def claimedByOther (r : Rec) (sender : Station) : Bool :=
  match r.claimant with
  | none   => false
  | some x => decide (x ≠ sender)

/-- The record after an APPLIED change: version raised, writer the sender (R6 to R10). -/
def changedRec (r : Rec) (sender : Station) (value : Value) (claimant : Option Station) : Rec :=
  ⟨value, r.version + 1, claimant, some sender⟩

/-- A committed operation from `sender` evaluated on a record: the result and the record afterwards (R6 to R9). -/
def evaluate (r : Rec) (sender : Station) : Op → Result × Rec
  | .write v =>
    if claimedByOther r sender then (.refusedClaimed, r)
    else (.applied, changedRec r sender v r.claimant)
  | .cswap e v =>
    if claimedByOther r sender then (.refusedClaimed, r)
    else if r.version ≠ e then (.refusedVersion, r)
    else (.applied, changedRec r sender v r.claimant)
  | .claim =>
    match r.claimant with
    | none   => (.applied, changedRec r sender r.value (some sender))
    | some x => if x = sender then (.unchanged, r) else (.refusedClaimed, r)
  | .release =>
    if r.claimant = some sender then (.applied, changedRec r sender r.value none)
    else (.refusedNotClaimant, r)

/-- A record after a committed EVICT of `target`: its claim released and its version raised, if it was claimed by it (R15). -/
def releasedRec (r : Rec) (target : Station) : Rec :=
  if r.claimant = some target then { r with claimant := none, version := r.version + 1 } else r

end Sys2Proof.Machine
end

