-- ==== Sys2Proof/Machine/Flags.lean ====
section
/-! DEFINITION. What the station's flags, streaks and pins stand at: everything computed from the state and held nowhere. -/

namespace Sys2Proof.Machine

/-! ### Station state -/

/-- The name of a station state (R73). -/
def StationState.mode : StationState → Mode
  | .idle     => .idle
  | .listen   => .listen
  | .syncing .. => .syncing
  | .synced   => .synced
  | .stranded => .stranded

/-- A station state as a PRESENCE reports it; an IDLE station sends none (R159). -/
def StationState.reported : StationState → Option Reported
  | .idle     => none
  | .listen   => some .listen
  | .syncing .. => some .syncing
  | .synced   => some .synced
  | .stranded => some .stranded

/-- The station's own number (R195). -/
def State.number (s : State) : Station := s.straps.number

/-- An own frame is in flight: from its start bit to its close or to the bit where it loses (R91). It loses when LOST_ARBITRATION is
taken: a LEAVE taken between the mismatch level and that command still finds it in flight (DESIGN CHOICE, log 31). -/
def State.ownInFlight (s : State) : Bool :=
  match s.bus.current with
  | .own .. => true
  | _       => false

/-- The bus rate table of the straps (R195). -/
def bitRateOf (br : BitVec 2) : BitRate :=
  if br = 0 then .kbit250 else if br = 1 then .kbit500 else if br = 2 then .mbit1 else .mbit2

/-! ### Segments, coverage and standing (R2, R4, R5) -/

/-- The segment of a record: its index divided by 16, rounded down (00 section 0.7). -/
def segmentOf (i : Index) : Segment := ⟨i.val / 16, by omega⟩

/-- Record `r` of segment `k`: record 16k + r (R162). -/
def recordIn (k : Segment) (r : Fin 16) : Index := ⟨16 * k.val + r.val, by omega⟩

/-- The station evaluates committed changes to record `i`: SYNCED, or SYNCING with its segment covered (R5, R15). -/
def State.follows (s : State) (i : Index) : Bool :=
  match s.sync.state with
  | .synced     => true
  | .syncing .. => s.table.covered[segmentOf i]
  | _           => false

/-- How far the station vouches for a record read (R4). -/
inductive Standing where
  | current
  | interim
  | stale
  deriving DecidableEq, Repr

/-- The standing of a read of record `i` (R4). -/
def State.standing (s : State) (i : Index) : Standing :=
  match s.sync.state with
  | .synced     => .current
  | .syncing .. => if s.table.covered[segmentOf i] then .interim else .stale
  | _           => .stale

/-! ### Streaks (R35, R151, R154) -/

/-- The transmit selector after the close of an own frame of kind `k` (R154). -/
def TransmitSelector.afterOwn (t : TransmitSelector) (k : Kind) (yieldN : Nat) : TransmitSelector :=
  if (kindClass k).toNat < 2 then t
  else if yieldN = 0 then { t with winStreak := 0 }
  else if yieldN ≤ t.winStreak + 1 then { winStreak := 0, sitOut := true }
  else { t with winStreak := t.winStreak + 1 }

/-! ### Status byte and result codes (R168, R171, R178, R179, R180) -/

/-- The status codes (R168). -/
inductive Status where
  | ok
  | badCommand
  | badParam
  | state
  | noCredit
  | busy
  | empty
  | notReady
  deriving DecidableEq, Repr

def statusCode : Status → Byte
  | .ok         => 0
  | .badCommand => 1
  | .badParam   => 2
  | .state      => 3
  | .noCredit   => 4
  | .busy       => 5
  | .empty      => 6
  | .notReady   => 7

/-- The status byte: PRIOR_TRUNCATED in its most significant bit, the code in its four lower bits (R168). -/
def statusByte (st : Status) (priorTruncated : Bool) : Byte :=
  (if priorTruncated then 0x80 else 0) ||| statusCode st

/-- Flags as a byte, the first the most significant bit. -/
def flagsByte (b7 b6 b5 b4 b3 b2 b1 b0 : Bool) : Byte :=
  BitVec.ofNat 8 (numberOf [b7, b6, b5, b4, b3, b2, b1, b0])

def modeCode : Mode → Byte
  | .idle     => 0
  | .listen   => 1
  | .syncing  => 2
  | .synced   => 3
  | .stranded => 4

/-- State codes of a PRESENCE (R159). -/
def reportedCode : Reported → Byte
  | .listen   => 1
  | .syncing  => 2
  | .synced   => 3
  | .stranded => 4

/-- The state a PRESENCE's state byte reports; any other byte reports none (R159). -/
def reportedOf (b : Byte) : Option Reported :=
  if b = 1 then some .listen
  else if b = 2 then some .syncing
  else if b = 3 then some .synced
  else if b = 4 then some .stranded
  else none

def standingCode : Standing → Byte
  | .current => 1
  | .interim => 2
  | .stale   => 3

def resultCode : Result → Byte
  | .applied            => 1
  | .unchanged          => 2
  | .refusedClaimed     => 3
  | .refusedVersion     => 4
  | .refusedNotClaimant => 5
  | .droppedRetries     => 6
  | .discarded          => 7
  | .cancelledResync    => 8
  | .cancelledWipe      => 9
  | .cancelledLeave     => 10

def causeCode : Cause → Byte
  | .founded           => 1
  | .transferDone      => 2
  | .wiped             => 3
  | .behind            => 4
  | .missedFrame       => 5
  | .attemptsExhausted => 6
  | .syncedPeerHeard   => 7
  | .joined            => 8
  | .left              => 9

def restartCode : RestartCause → Byte
  | .countMismatch => 1
  | .timeout       => 2
  | .donorLost     => 3

def endReasonCode : EndReason → Byte
  | .done        => 1
  | .failed      => 2
  | .joinerLost  => 3
  | .reRequested => 4
  | .wiped       => 5
  | .leftSynced  => 6

def peerStateCode : PeerState → Byte
  | .absent   => 0
  | .arriving => 1
  | .present  => 2
  | .fading   => 3

def relationCode : Relation → Byte
  | .unknown    => 0
  | .consistent => 1
  | .lagging    => 2

/-- The four bytes of an event (R179). -/
def eventBytes : Event → List Byte
  | .stateChanged m c    => [1, modeCode m, causeCode c, 0]
  | .peerUp x            => [2, byteOf x.val, 0, 0]
  | .peerDown x          => [3, byteOf x.val, 0, 0]
  | .peerEvicted x b     => [4, byteOf x.val, byteOf b.val, 0]
  | .selfEvicted b       => [5, byteOf b.val, 0, 0]
  | .recordChanged i w   => [6, byteOf i.val, byteOf w.val, 0]
  | .queueHeld t         => [7, t, 0, 0]
  | .wiped b g           => 8 :: byteOf b.val :: halfBytes g
  | .transferRestart c   => [9, restartCode c, 0, 0]
  | .donorEnded j r      => [10, byteOf j.val, endReasonCode r, 0]
  | .numberClash         => [11, 0, 0, 0]

/-- The eleven bytes of a completion record (R178). -/
def completionBytes (c : Completion) : List Byte :=
  [c.ticket, opCode c.op, byteOf c.index.val, resultCode c.result,
    flagsByte c.versionAfter.isSome c.countAfter.isSome false false false false false false]
    ++ halfBytes (c.versionAfter.getD 0) ++ wordBytes (c.countAfter.getD 0)

/-- The eleven bytes of a position in a result: the origin reads 0xFF for none (R171, R180). -/
def positionBytes (p : Position) : List Byte :=
  halfBytes p.generation ++ [stationByte p.origin] ++ wordBytes p.count ++ wordBytes p.digest

/-- The two coverage bytes: segments 0 to 7, then 8 to 15, each from the most significant bit (R171). -/
def coverageBytes (cov : Vector Bool 16) : List Byte :=
  [flagsByte cov[0] cov[1] cov[2] cov[3] cov[4] cov[5] cov[6] cov[7],
    flagsByte cov[8] cov[9] cov[10] cov[11] cov[12] cov[13] cov[14] cov[15]]

/-- Bytes 20 to 23 of STATUS: sub-state, donor, next segment, request attempts (R171). -/
def joinerBytes : StationState → List Byte
  | .syncing .requesting k a    => [1, 0xFF, byteOf k.val, byteOf a]
  | .syncing (.receiving d) k a => [2, byteOf d.val, byteOf k.val, byteOf a]
  | _                           => [0, 0xFF, 0, 0]

/-- Bytes 24 to 26 of STATUS: the donor record (R171). -/
def donorBytes : Option DonorRecord → List Byte
  | some d => [byteOf d.joiner.val, byteOf d.next.val, byteOf d.attempts]
  | none   => [0xFF, 0, 0]

/-- The 29 result bytes of STATUS (R171). -/
def State.statusBytes (s : State) : List Byte :=
  [modeCode s.sync.state.mode,
    flagsByte s.port.starting s.sync.leavePending s.update.held s.sync.wipePending.isSome false false false false,
    byteOf s.straps.number.val]
    ++ positionBytes s.sync.position
    ++ coverageBytes s.table.covered
    ++ [byteOf s.update.outbound.length, byteOf s.update.completions.length, byteOf s.port.events.length, byteOf s.port.lost]
    ++ joinerBytes s.sync.state
    ++ donorBytes s.sync.donor
    ++ [stationByte (s.sync.offer.map OfferSlot.joiner),
        flagsByte s.port.eventEnable s.port.completionEnable false false false false false false]

/-- The 21 result bytes of READ_RECORD (R174). -/
def State.recordBytes (s : State) (i : Index) : List Byte :=
  recBytes s.table.records[i] ++ [standingCode (s.standing i)]

/-- The 18 result bytes of READ_PEER for a peer (R180). -/
def peerBytes (p : Peer) : List Byte :=
  [peerStateCode p.state, byteOf p.hits, byteOf p.misses, byteOf p.advertisedP,
    (match p.reported with | some r => reportedCode r | none => 0)]
    ++ positionBytes p.lastPosition
    ++ [relationCode p.relation, if p.evictPending then 1 else 0]

/-- The 18 result bytes of READ_PEER for the station's own number: SELF (R180). -/
def selfBytes : List Byte :=
  [4, 0, 0, 0, 0, 0, 0, 0xFF, 0, 0, 0, 0, 0, 0, 0, 0, 0, 0]

/-! ### Pins -/

/-- INT# is driven low (R193). -/
def State.intLow (s : State) : Bool :=
  (s.port.eventEnable && !s.port.events.isEmpty) || (s.port.completionEnable && !s.update.completions.isEmpty)

/-- The byte SDO drives as byte `k` after the taking point; SDO is three-state outside the result phase, and reads 0x00 past
the result (R165, R166). -/
def State.sdoByte (s : State) (k : Nat) : Option Byte :=
  if s.port.phase = .result then some (s.port.result.getD k 0) else none

end Sys2Proof.Machine
end

