-- ==== Sys2Proof/Machine/Follow.lean ====
section
/-! DEFINITION. The bus interface bit by bit: what each level read does to it, what it brings about, and what the station
drives on the line (Chapters 2 and 7). -/

namespace Sys2Proof.Machine

/-! ### What each level read does (R27, R34, R141, R145 to R150) -/

/-- What the bus interface takes from the rest of the station while it follows the line: the station number, whether the station is
out of IDLE (R27), whether it is SYNCED (R34), and REJECT_BUDGET. -/
structure Ear where
  number    : Station
  takesPart : Bool
  synced    : Bool
  budget    : Nat
  deriving DecidableEq, Repr

/-- The station as its bus interface sees it. -/
def State.ear (s : State) : Ear :=
  ⟨s.number, decide (s.sync.state ≠ .idle), decide (s.sync.state = .synced), s.port.inEffect.rejectBudget⟩

/-- One more recessive bit: the run stops at 22 (R146, R147). -/
def BusInterface.longerRun (bus : BusInterface) : Nat := min Config.longRun (bus.recessiveRun + 1)

/-- In step with no frame on the line: from the eleventh recessive bit on each bit time is an offer point, and the first dominant bit
after one is a start bit. A dominant bit before is the loss of the place of a bad frame, or noise (R145, R146). -/
def BusInterface.hearIdle (e : Ear) (bus : BusInterface) (b : Bool) : BusInterface :=
  if b then
    { bus with
      recessiveRun := bus.longerRun,
      badTail      := bus.badTail && decide (bus.longerRun < Config.idleRun),
      due          := if Config.idleRun ≤ bus.longerRun then some .offerPoint else none }
  else if Config.idleRun ≤ bus.recessiveRun then
    { bus with recessiveRun := 0, badTail := false, current := .receiving Reader.start e.takesPart false }
  else if bus.badTail then { bus with due := some (.lostPlace .dominantAfterEnd) }
  else { bus with recessiveRun := 0 }

/-- Out of step: every recessive bit is counted, and a dominant bit after eleven of them, or the 22nd of them, brings the station
back in step (R147). -/
def BusInterface.hearOutOfStep (bus : BusInterface) (b : Bool) : BusInterface :=
  if b then
    { bus with
      recessiveRun := bus.longerRun,
      due          := if bus.longerRun = Config.longRun then some (.regain .longRun) else none }
  else if Config.idleRun ≤ bus.recessiveRun then { bus with due := some (.regain .startBit) }
  else { bus with recessiveRun := 0 }

/-- The reject decision at the end delimiter: SYNCED, the frame bad, the reject streak below the budget, and the frame one that has
a close at this station (R27, R34, R141). -/
def BusInterface.rejects (e : Ear) (bus : BusInterface) (r : Reader) (closes : Bool) : Bool :=
  closes && e.synced && r.bad && decide (bus.rejectStreak < e.budget)

/-- Receiving a frame: its fields are read, its reject decision taken at the end delimiter, its close reached with the second slot
bit; eleven recessive bits in a row before the placed end delimiter are the loss of its place (R34, R141, R145). -/
def BusInterface.hearFrame (e : Ear) (bus : BusInterface) (r : Reader) (closes rejecting b : Bool) : BusInterface :=
  match r.hear b with
  | ⟨fields, left, placed, run, tail, recessive⟩ =>
    let r : Reader := ⟨fields, left, placed, run, tail, recessive⟩
    match tail with
    | [] =>
      { bus with
        current := .receiving r closes rejecting,
        due     := if Config.idleRun ≤ recessive then some (.lostPlace .elevenRecessive) else none }
    | [_, _, _] => { bus with current := .receiving r closes (bus.rejects e r closes) }
    | [_, _, _, _, _] => { bus with current := .receiving r closes rejecting, due := some .close }
    | _ => { bus with current := .receiving r closes rejecting }

/-- The own frame's reject slot: both levels are read, and the second brings the close (R141). -/
def BusInterface.hearOwnSlot (e : Ear) (bus : BusInterface) (o : OwnFrame) (b : Bool) : BusInterface :=
  { bus with
    current := .own { o with position := o.position + 1, rejected := o.rejected || !b },
    due     := if (sentBits e.number o.frame).length < o.position then some .close else none }

/-- The own frame: every bit from the start bit through the end delimiter is read back. A mismatch at the start bit or a key bit
loses arbitration, a later one spoils the frame, and a spoiled sender goes on counting to its own placed end (R149, R150). -/
def BusInterface.hearOwn (e : Ear) (bus : BusInterface) (o : OwnFrame) (b : Bool) : BusInterface :=
  match (sentBits e.number o.frame)[o.position]? with
  | none => bus.hearOwnSlot e o b
  | some sent =>
    match o.spoil with
    | some count => { bus with current := .own { o with position := o.position + 1, spoil := some (fillNext count b) } }
    | none =>
      if b = sent then { bus with recessiveRun := 0, current := .own { o with position := o.position + 1 } }
      else if o.position ≤ keyEnd e.number o.frame.kind then { bus with due := some .lostArbitration }
      else { bus with due := some .spoiled }

/-- One level read (R139). -/
def BusInterface.hear (e : Ear) (bus : BusInterface) (b : Bool) : BusInterface :=
  match bus.current with
  | .idle => if bus.inStep then bus.hearIdle e b else bus.hearOutOfStep b
  | .receiving r closes rejecting => bus.hearFrame e r closes rejecting b
  | .own o => bus.hearOwn e o b

/-- A run of levels read. None where a level follows one that brought about an event: that event's command comes between them
(log 28). The result of each level is taken apart, so that the kernel evaluates a run level by level. -/
def BusInterface.follow (e : Ear) (bus : BusInterface) : Levels → Option BusInterface
  | [] => some bus
  | b :: line =>
    match bus.due with
    | some _ => none
    | none   =>
      match bus.hear e b with
      | ⟨inStep, run, current, spoils, rejects, badTail, slotDriven, due⟩ =>
        BusInterface.follow e ⟨inStep, run, current, spoils, rejects, badTail, slotDriven, due⟩ line

/-- The station after the levels `line`, and the event that the last of them brought about, which is taken. None where they bring
about none, or one before the last. -/
def State.heard (s : State) (line : Levels) : Option (LineEvent × State) :=
  match s.bus.follow s.ear line with
  | none => none
  | some bus =>
    match bus.due with
    | none => none
    | some event => some (event, { s with bus := { bus with due := none } })

/-! ### What the station drives (R34, R38, R139, R141, R150) -/

/-- The level MBTX drives in the next bit time of an own frame: the next bit of the frame while the readback matches; from the bit
after a mismatch recessive, with a dominant fill bit after ten recessive bits before the end delimiter; both slot bits dominant
where it is spoiled. At the bit of a mismatch itself the sender has stopped driving data (R149, R150). -/
def OwnFrame.nextLevel (o : OwnFrame) (number : Station) (due : Option LineEvent) : Bool :=
  let length := (sentBits number o.frame).length
  match o.spoil, due with
  | none, some .lostArbitration => true
  | none, some .spoiled => decide (o.position + 1 < length)
  | none, _ => (sentBits number o.frame).getD o.position true
  | some count, _ =>
    if o.position + 3 < length then fillLevel count
    else decide (o.position < length) || decide (length + 2 ≤ o.position)

/-- The level of MBTX in the next bit time: `true` is recessive. Outside an own frame a station drives only the slot of a frame it
rejects (R34, R141). -/
def State.mbtx (s : State) : Bool :=
  match s.bus.current with
  | .idle => true
  | .receiving r _ rejecting => !(rejecting && decide (3 ≤ r.tail.length ∧ r.tail.length < 5))
  | .own o => o.nextLevel s.number s.bus.due

end Sys2Proof.Machine
end

