-- ==== Sys2Proof/Machine/Ops.lean ====
section
/-! DEFINITION. The operations the meanings share: events, the replica, the queues, the peer table, and the state changes of
the sync controller with every order they give the other blocks. -/

namespace Sys2Proof.Machine

/-! ### Events (R185, R186, R190) -/

/-- Post an event at the host port: it joins the tail of the event queue, or is lost and counted where the queue is full
(R185, R186). -/
def HostPort.post (p : HostPort) (e : Event) : HostPort :=
  if p.events.length < Config.eventLimit then { p with events := p.events ++ [e] }
  else { p with lost := min Config.lostLimit (p.lost + 1) }

/-- Post an event (R185, R186). -/
def State.post (s : State) (e : Event) : State := { s with port := s.port.post e }

/-- The watch check of another station's APPLIED update: post RECORD_CHANGED for a watched record whose change-pending flag is
clear, and set the flag if the event is stored (R14, R190). -/
def State.noteChange (s : State) (i : Index) (writer : Station) : State :=
  if s.table.watch[i] && !s.table.changePending[i] then
    if s.port.events.length < Config.eventLimit then
      { s with port.events := s.port.events ++ [.recordChanged i writer],
               table.changePending := put s.table.changePending i true }
    else { s with port.lost := min Config.lostLimit (s.port.lost + 1) }
  else s

/-! ### Replica, coverage and position (Chapters 1 and 2) -/

/-- Every record zeroed (R1). -/
def State.zeroRecords (s : State) : State :=
  { s with table.records := tab fun _ => Rec.zero }

/-- Every coverage flag set to `b` (R3). -/
def State.coverAll (s : State) (b : Bool) : State :=
  { s with table.covered := tab fun _ => b }

/-- The station drops its position (R44). -/
def State.dropPosition (s : State) : State :=
  { s with sync.position := Position.none }

/-- The claims of `target` released in every record the station follows (R15). -/
def State.releaseClaims (s : State) (target : Station) : State :=
  { s with table.records := tab fun i =>
      if s.follows i then releasedRec s.table.records[i] target else s.table.records[i] }

/-- The sixteen records of segment `k`, as they stand (R19). -/
def State.segmentRecords (s : State) (k : Segment) : Vector Rec 16 :=
  tab fun r => s.table.records[recordIn k r]

/-- Segment `k` overwritten whole and covered (R20). -/
def State.overwriteSegment (s : State) (k : Segment) (rs : Vector Rec 16) : State :=
  { s with
    table.records := tab fun i =>
      if segmentOf i = k then rs[i.val % 16]'(Nat.mod_lt _ (by decide)) else s.table.records[i],
    table.covered := put s.table.covered k true }

/-- Count and fold a committed ordered frame, at a SYNCED or SYNCING station that holds a lineage (R41, R42). -/
def State.countFrame (s : State) (bytes : List Byte) : State :=
  match s.sync.state with
  | .synced | .syncing .. =>
    if s.sync.position.origin.isSome then
      { s with sync.position := s.sync.position.advance bytes }
    else s
  | _ => s

/-! ### Update engine (Chapter 3) -/

/-- The completion record of an entry that was applied at no station (R63). -/
def Entry.ended (e : Entry) (r : Result) : Completion :=
  ⟨e.ticket, e.op, e.index, r, none, none⟩

/-- Cancel every outbound entry, head first, and clear HELD (R66). -/
def State.cancel (s : State) (r : Result) : State :=
  { s with
    update.outbound    := [],
    update.completions := s.update.completions ++ s.update.outbound.map (·.ended r),
    update.held        := false }

/-- The version after a completion record carries: for APPLIED and UNCHANGED only (R12, R63). -/
def versionAfter (r : Result) (v : Half) : Option Half :=
  match r with
  | .applied | .unchanged => some v
  | _ => none

/-- The head leaves with its result at the own COMMITTED close; version and count as they stand after the close (R56). -/
def State.settleHead (s : State) (r : Result) (v : Half) : State :=
  match s.update.outbound with
  | [] => s
  | e :: rest =>
    { s with
      update.outbound    := rest,
      update.completions := s.update.completions ++
        [⟨e.ticket, e.op, e.index, r, versionAfter r v, some s.sync.position.count⟩] }

/-- The own DISCARDED close of the head: attempts rise, and at RETRY_LIMIT the failure policy acts (R57, R58, R59). -/
def State.failHead (s : State) : State :=
  match s.update.outbound with
  | [] => s
  | e :: rest =>
    if e.attempts + 1 < s.port.inEffect.retryLimit then
      { s with update.outbound := { e with attempts := e.attempts + 1 } :: rest }
    else
      match s.port.inEffect.failPolicy with
      | .drop =>
        { s with
          update.outbound    := rest,
          update.completions := s.update.completions ++ [e.ended .droppedRetries] }
      | .hold =>
        { s with
          update.outbound := { e with attempts := e.attempts + 1 } :: rest,
          update.held     := true }.post (.queueHeld e.ticket)

/-! ### Peer table (Chapter 6) -/

/-- One peer entry rewritten. -/
def State.setPeer (s : State) (x : Station) (p : Peer) : State :=
  { s with peers.entries := put s.peers.entries x p }

/-- Every peer entry rewritten. -/
def State.mapPeers (s : State) (f : Peer → Peer) : State :=
  { s with peers.entries := tab fun x => f s.peers.entries[x] }

/-- An entry gone to ABSENT: hits and misses 0, the watch timer stopped; the last-heard fields and the relation stay
(R126, R127, R128, R134). -/
def Peer.gone (p : Peer) : Peer :=
  { p with state := .absent, hits := 0, misses := 0, watchTimer := none }

/-- The lowest-numbered station whose evict-pending flag is set (R133). -/
def State.evictTarget (s : State) : Option Station :=
  (List.finRange 16).find? fun x => s.peers.entries[x].evictPending

/-! ### Transfers and state changes (Chapters 4 and 5) -/

/-- Enter a station state: the reject streak becomes 0 (R35). -/
def State.enter (s : State) (st : StationState) : State :=
  { s with sync.state := st, bus.rejectStreak := 0 }

/-- Serving ends, if the station serves: the donor record is emptied and DONOR_ENDED posted (R107). -/
def State.endServing (s : State) (why : EndReason) : State :=
  match s.sync.donor with
  | none => s
  | some d => { s with sync.donor := none }.post (.donorEnded d.joiner why)

/-- Begin a request from segment 0 (R79). -/
def State.beginRequest (s : State) : State :=
  let s := ((s.enter (.syncing .requesting 0 0)).coverAll false).dropPosition
  { s with sync.syncRequest := true, sync.listenTimer := none }

/-- Enter STRANDED (R82). A pending leave stays pending, and ends at the close of the own frame (R93, R173), where the table of R96
gives leave-pending clear (DESIGN CHOICE, log 32). -/
def State.strand (s : State) : State :=
  let s := ((s.enter .stranded).coverAll false).dropPosition
  { s with
    sync.syncRequest   := false,
    sync.offerTimer    := none,
    sync.segmentTimer  := none,
    sync.listenTimer   := some (3 * s.port.inEffect.presenceInterval),
    sync.evidenceHeard := false,
    sync.lowerHeard    := false }.post (.stateChanged .stranded .attemptsExhausted)

/-- A joiner's attempt has failed: the request attempts rise, and a request from segment `next` is set pending or, at the
fourth, the station enters STRANDED (R100, R112, R113, R114, R116). -/
def State.retry (s : State) (next : Segment) (attempts : Nat) : State :=
  if attempts + 1 < Config.attemptLimit then
    { s with
      sync.state        := .syncing .requesting next (attempts + 1),
      sync.syncRequest  := true,
      sync.offerTimer   := none,
      sync.segmentTimer := none }
  else s.strand

/-- The transfers with station `x` end: it is lost as the joiner served, and as the donor received from (R107, R114). -/
def State.loseTransfers (s : State) (x : Station) : State :=
  let s := match s.sync.donor with
    | some d => if d.joiner = x then s.endServing .joinerLost else s
    | none   => s
  match s.sync.state with
  | .syncing (.receiving d) next attempts =>
    if d = x then (s.post (.transferRestart .donorLost)).retry next attempts else s
  | _ => s

/-- Leave SYNCED for SYNCING (R88). -/
def State.leaveSynced (s : State) (cause : Cause) : State :=
  let s := s.cancel .cancelledResync
  let s := { s with sync.wipePending := none, sync.offer := none }
  let s := s.endServing .leftSynced
  let s := s.mapPeers fun p => { p with evictPending := false, relation := .unknown }
  s.beginRequest.post (.stateChanged .syncing cause)

/-- The station becomes SYNCED: the joiner record goes, its timers stop and a pending SYNC_REQUEST is withdrawn
(R78, R81, R90, R95). -/
def State.becomeSynced (s : State) : State :=
  let s := s.enter .synced
  { s with
    sync.syncRequest  := false,
    sync.listenTimer  := none,
    sync.offerTimer   := none,
    sync.segmentTimer := none }

/-- Found a new lineage (R18, R78). -/
def State.found (s : State) : State :=
  let s := (s.zeroRecords.coverAll true).becomeSynced
  { s with sync.position := ⟨0, some s.number, 0, 0⟩ }.post (.stateChanged .synced .founded)

/-- A frame of another station on the line has no close at this station, which drives nothing for it (R27, R47, log 30). -/
def Current.withoutClose : Current → Current
  | .receiving r _ _ => .receiving r false false
  | c                => c

/-- The station goes IDLE (R92). -/
def State.goIdle (s : State) : State :=
  let s := s.cancel .cancelledLeave
  let s := s.endServing .leftSynced
  let s := s.mapPeers fun p => { p with evictPending := false, watchTimer := none }
  let s := s.enter .idle
  { s with
    sync.wipePending      := none,
    sync.syncRequest      := false,
    sync.offer            := none,
    sync.leavePending     := false,
    sync.listenTimer      := none,
    sync.offerTimer       := none,
    sync.segmentTimer     := none,
    peers.presenceTimer   := none,
    peers.presencePending := false,
    bus.current           := s.bus.current.withoutClose,
    selector              := ⟨0, false⟩ }.post (.stateChanged .idle .left)

/-- A committed frame that is evidence of a running history, in LISTEN or STRANDED (R76, R83). -/
def State.hearEvidence (s : State) : State :=
  match s.sync.state with
  | .listen | .stranded => { s with sync.evidenceHeard := true }
  | _ => s

/-! ### Host port (Chapter 9) -/

/-- The result buffer filled at the taking point: the status byte, then the result bytes (R166). The prior-truncated flag is
reported and cleared (R167). -/
def State.answer (s : State) (st : Status) (bytes : List Byte) : State :=
  { s with
    port.result         := statusByte st s.port.priorTruncated :: bytes,
    port.phase          := .result,
    port.priorTruncated := false }

/-- A status, result bytes and the state a command leaves before its result buffer is filled. -/
structure Reply where
  status : Status
  bytes  : List Byte
  state  : State

/-- A command answered with a status other than OK: its result bytes read 0x00 (R168). -/
def refuse (s : State) (st : Status) (n : Nat) : Reply := ⟨st, List.replicate n 0, s⟩

/-- BAD_PARAM: the byte after the status byte gives the operand's ordinal (R168). -/
def badParam (s : State) (ordinal n : Nat) : Reply :=
  ⟨.badParam, byteOf ordinal :: List.replicate (n - 1) 0, s⟩

/-- A command at its taking point, inside a transaction whose command has not been taken: NOT_READY while the start-up clear
runs, else its own tests and action (R165, R166, R169). `n` is its result length (09 section 9.4). With SCS# high, or after the
taking point, no command is read (log 7). -/
def State.takeCommand (s : State) (n : Nat) (act : State → Reply) : State :=
  if s.port.phase = .command then
    let r := if s.port.starting then refuse s .notReady n else act s
    r.state.answer r.status r.bytes
  else s

end Sys2Proof.Machine
end

