-- ==== Sys2Proof/Machine/Operands.lean ====
section
/-! DEFINITION. The operands of the commands: whose frame closes and what it carries, the ranges of CONFIGURE and
SET_INTERRUPTS, and the operand counts of the host port's codes. -/

namespace Sys2Proof.Machine

/-! ### Closes (R27 to R32) -/

/-- A frame at its close: who sent it, whether it is the station's own, and what it carries. -/
structure Closing where
  sender : Station
  own    : Bool
  frame  : Frame
  deriving DecidableEq, Repr

/-- How the frame on the line ends: committed, discarded, with whether the own readback spoiled it, or bad at this receiver, with
whether it rejects the frame (R28 to R30, R38). -/
inductive Ending where
  | committed (cl : Closing)
  | discarded (cl : Closing) (spoiled : Bool)
  | bad (rejecting : Bool)
  deriving DecidableEq, Repr

/-- How the current frame ends, its second slot bit read. An own frame takes its outcome from its readback and the slot, without
any check of its CRC (R30); a received one from its reading and the slot (R29). A received frame that carries the station's own number
is another station's frame (R31). -/
def Current.ending (number : Station) : Current → Option Ending
  | .idle => none
  | .receiving r _ rejecting =>
    some
      (match r.intact with
       | some (x, f, false) => .committed ⟨x, false, f⟩
       | some (x, f, true)  => .discarded ⟨x, false, f⟩ false
       | none               => .bad rejecting)
  | .own o =>
    some
      (if o.spoil.isSome then .discarded ⟨number, true, o.frame⟩ true
       else if o.rejected then .discarded ⟨number, true, o.frame⟩ false
       else .committed ⟨number, true, o.frame⟩)

/-- The levels bring the frame on the line to the end of its reject slot: how it ends, and the station with the frame still to be
handed over. -/
def State.closing (s : State) (line : Levels) : Option (Ending × State) :=
  match s.heard line with
  | some (.close, u) => (u.bus.current.ending u.number).map fun e => (e, u)
  | _ => none

/-- The frame on the line has a close at this station: it is out of IDLE, and has been from the frame's start bit (R27, R47). -/
def State.handsClose (s : State) : Bool :=
  decide (s.sync.state ≠ .idle) &&
    match s.bus.current with
    | .receiving _ closes _ => closes
    | _ => true

/-- The end of a frame at the bus interface; `bad` says whether it held a bad frame (R27, R145, R146). -/
def State.frameEnds (s : State) (bad : Bool) : State :=
  { s with bus.current := .idle, bus.recessiveRun := 0, bus.badTail := bad }

/-- What the bus interface and the transmit selector do at the close of a frame that was read intact or whose readback matched
(R35, R146, R151, R154). -/
def State.closeMatched (s : State) (cl : Closing) : State :=
  { s.frameEnds false with
    bus.slotDriven   := false,
    bus.rejectStreak := 0,
    bus.spoilStreak  := if cl.own then 0 else s.bus.spoilStreak,
    selector         :=
      if cl.own then s.selector.afterOwn cl.frame.kind s.port.inEffect.yieldN
      else { s.selector with winStreak := 0 } }

/-- After every block has processed the close of the own frame, a station with leave-pending set goes IDLE (R93). -/
def State.afterOwnClose (s : State) (own : Bool) : State :=
  if own && s.sync.leavePending then s.goIdle else s

/-- A COMMITTED close of a frame of kind `k`: the bus interface's part, then the acts of the four blocks, then a deferred
leave. Where the levels end in no such close, the command changes nothing (log 6). -/
def State.closeCommitted (s : State) (line : Levels) (k : Kind) (act : Closing → State → State) : State :=
  match s.closing line with
  | some (.committed cl, u) =>
    if cl.frame.kind = k then
      if u.handsClose then (act cl (u.closeMatched cl)).afterOwnClose cl.own else u.frameEnds false
    else s
  | _ => s

/-! ### Ranges of CONFIGURE (R172, R199) -/

/-- The first operand out of its range, by ordinal (R199). -/
def configFault (o : ConfigOperands) : Option Nat :=
  if ¬ (2 ≤ o.presenceInterval.toNat ∧ o.presenceInterval.toNat ≤ 250) then some 1
  else if ¬ (1 ≤ o.lockN.toNat ∧ o.lockN.toNat ≤ 15) then some 2
  else if ¬ (1 ≤ o.unlockN.toNat ∧ o.unlockN.toNat ≤ 7) then some 3
  else if o.retryLimit.toNat ∉ [4, 8, 16, 32] then some 4
  else if ¬ o.failPolicy.toNat ≤ 1 then some 5
  else if ¬ o.yieldN.toNat ≤ 8 then some 6
  else if ¬ (1 ≤ o.rejectBudget.toNat ∧ o.rejectBudget.toNat ≤ 7) then some 7
  else if ¬ o.donorEnable.toNat ≤ 1 then some 8
  else none

/-- The parameters eight operands in range give (R172). -/
def configParams (o : ConfigOperands) : Params where
  presenceInterval := o.presenceInterval.toNat
  lockN            := o.lockN.toNat
  unlockN          := o.unlockN.toNat
  retryLimit       := o.retryLimit.toNat
  failPolicy       := if o.failPolicy = 0 then .drop else .hold
  yieldN           := o.yieldN.toNat
  rejectBudget     := o.rejectBudget.toNat
  donorEnable      := decide (o.donorEnable ≠ 0)

/-! ### The host port's codes (09 section 9.4) -/

/-- The operand bytes of a command code; a code that names no command has none (R167, R169). -/
def operandCount (code : Byte) : Nat :=
  match code.toNat with
  | 0x02 => 8
  | 0x10 => 1
  | 0x11 => 17
  | 0x12 => 19
  | 0x13 => 1
  | 0x14 => 1
  | 0x22 => 1
  | 0x30 => 1
  | 0x31 => 1
  | 0x32 => 2
  | _    => 0

/-- The codes of the command table (09 section 9.4). -/
def namesCommand (code : Byte) : Bool :=
  code.toNat ∈ [0x01, 0x02, 0x03, 0x04, 0x10, 0x11, 0x12, 0x13, 0x14, 0x15, 0x16, 0x17, 0x20, 0x21, 0x22, 0x30, 0x31, 0x32]

/-- The bits sampled do not reach the taking point of their command: a command byte part-sent, or operand bits outstanding
(R166, R167). -/
def beforeTaking (bits : List Bool) : Bool :=
  decide (bits.length < 8) ||
    decide (bits.length < 8 * (1 + operandCount (byteOf (numberOf (bits.take 8)))))

end Sys2Proof.Machine
end

