-- ==== Sys2Proof/Decode.lean ====
section
/-! DEFINITION. The command a table word spells (none: the table gives no row any bits), and the host port's own decoder: the
command byte and operand bytes of one transaction (09 section 9.4), with the encoder written from the same table. -/

namespace Sys2Proof

open Machine

/-- The table gives no row of its own any bits, so no word spells a command. -/
def decodeTableWord (_nbits _w : Nat) : Option Instr := none

/-- The change two operands of CSWAP and sixteen value bytes give (R175). -/
def decodeChange (code : Byte) (index : Byte) (rest : List Byte) : Option Instr :=
  if code = 0x11 then (valueOf rest).map (.write (indexOf index))
  else
    match rest with
    | e1 :: e0 :: v => (valueOf v).map (.cswap (indexOf index) (halfOf e1 e0))
    | _ => none

/-- The command the host port takes from a whole transaction: the command byte and its operand bytes, no more and no fewer
(R166, 09 section 9.4). A code that names no command is BAD_COMMAND and has no operands (R169). -/
def decodeHostPort : List Byte → Option Instr
  | [] => none
  | code :: operands =>
    if operands.length ≠ operandCount code then none
    else if !namesCommand code then some (.badCommand code)
    else if code = 0x01 then some .status
    else if code = 0x02 then
      match operands with
      | [a, b, c, d, e, f, g, h] => some (.configure ⟨a, b, c, d, e, f, g, h⟩)
      | _ => none
    else if code = 0x03 then some .join
    else if code = 0x04 then some .leave
    else if code = 0x15 then some .wipe
    else if code = 0x16 then some .resume
    else if code = 0x17 then some .discardHead
    else if code = 0x20 then some .takeCompletion
    else if code = 0x21 then some .takeEvent
    else
      match operands with
      | a :: rest =>
        if code = 0x10 then some (.readRecord (indexOf a))
        else if code = 0x13 then some (.claim (indexOf a))
        else if code = 0x14 then some (.release (indexOf a))
        else if code = 0x22 then some (.readPeer a)
        else if code = 0x30 then some (.watch (indexOf a))
        else if code = 0x31 then some (.unwatch (indexOf a))
        else if code = 0x32 then
          match rest with
          | [b] => some (.setInterrupts a b)
          | _ => none
        else decodeChange code a rest
      | [] => none

/-- The bytes the host sends for a host command; none for the events that are no host command (09 section 9.4). -/
def encodeHostPort : Instr → Option (List Byte)
  | .status            => some [0x01]
  | .configure o       =>
    some [0x02, o.presenceInterval, o.lockN, o.unlockN, o.retryLimit, o.failPolicy, o.yieldN, o.rejectBudget, o.donorEnable]
  | .join              => some [0x03]
  | .leave             => some [0x04]
  | .readRecord i      => some [0x10, byteOf i.val]
  | .write i v         => some (0x11 :: byteOf i.val :: valueBytes v)
  | .cswap i e v       => some (0x12 :: byteOf i.val :: (halfBytes e ++ valueBytes v))
  | .claim i           => some [0x13, byteOf i.val]
  | .release i         => some [0x14, byteOf i.val]
  | .wipe              => some [0x15]
  | .resume            => some [0x16]
  | .discardHead       => some [0x17]
  | .takeCompletion    => some [0x20]
  | .takeEvent         => some [0x21]
  | .readPeer n        => some [0x22, n]
  | .watch i           => some [0x30, byteOf i.val]
  | .unwatch i         => some [0x31, byteOf i.val]
  | .setInterrupts e c => some [0x32, e, c]
  | .badCommand code   => if namesCommand code then none else some [code]
  | _                  => none

end Sys2Proof
end

