-- ==== Sys2Proof/Machine/BusEvents.lean ====
section
/-! DEFINITION. What happens on the line outside a close: OFFER_POINT, LOST_ARBITRATION, SPOILED_FRAME, LOST_PLACE,
REGAIN_STEP. -/

namespace Sys2Proof.Machine

/-- The PRESENCE as it is filled in at its offer point (R123). -/
def State.presenceFrame (s : State) : Frame :=
  .presence
    (match s.sync.state.reported with | some r => reportedCode r | none => 0)
    (byteOf s.port.inEffect.presenceInterval)
    (match s.sync.state with | .synced => s.sync.position.carried | _ => carriedZero)

/-- The next SNAPSHOT segment as it is filled in at its offer point (R19, R105). -/
def State.snapshotFrame (s : State) (d : DonorRecord) : Frame :=
  .snapshot d.joiner d.next s.sync.position.carried (s.segmentRecords d.next)

/-- The head, if it is sendable: the queue not empty, HELD clear and the station SYNCED (R54). -/
def State.sendableHead (s : State) : Option Entry :=
  if s.sync.state = .synced ∧ ¬ s.update.held then s.update.outbound.head? else none

/-- The pending SYNC_REQUEST, with the joiner record's next segment (R99). -/
def State.pendingRequest (s : State) : Option Segment :=
  match s.sync.state with
  | .syncing _ next _ => if s.sync.syncRequest then some next else none
  | _ => none

/-- The frame the transmit selector chooses, filled in: the first pending in the order of R152. -/
def State.choose (s : State) : Option Frame :=
  if s.sync.wipePending.isSome then some (.wipe (s.sync.position.generation + 1))
  else
    match s.evictTarget with
    | some x => some (.evict x)
    | none =>
      match s.sync.offer with
      | some o => some (.offer o.joiner o.start)
      | none =>
        match s.pendingRequest with
        | some k => some (.syncRequest k)
        | none =>
          if s.peers.presencePending then some s.presenceFrame
          else
            match s.sendableHead with
            | some e => some (.update e.ticket e.op e.index)
            | none => s.sync.donor.map s.snapshotFrame

/-- Start driving a frame: it is the own frame in flight from here. A WIPE's new generation is the one it carries now
(R89, R152). -/
def State.drive (s : State) (f : Frame) : State :=
  let s := { s with bus.current := .own ⟨f, 0, none, false⟩ }
  match f with
  | .wipe g => { s with sync.wipePending := some g }
  | _ => s

/-- The transmit selector at an offer point (R152, R155). -/
def State.offer (s : State) : State :=
  if s.sync.state = .idle then s
  else if s.selector.sitOut then { s with selector.sitOut := false }
  else
    match s.choose with
    | some f => s.drive f
    | none => s

/-- OFFER_POINT (R146): the bus is idle at the last level read. -/
def execOfferPoint (s : State) (line : Levels := []) : Host.Outcome State Fault Refusal :=
  .next
    (match s.heard line with
     | some (.offerPoint, u) => u.offer
     | _ => s)

/-- The bits of the winning frame after its start bit, up to the key bit at which the own frame `o` lost: the own bits, and the other
level at the mismatch (R149). -/
def OwnFrame.winnerBits (o : OwnFrame) (number : Station) : Levels :=
  let sent := sentBits number o.frame
  (sent.take o.position).drop 1 ++ [!sent.getD o.position true]

/-- The bus interface where the own frame `o` loses arbitration: a receiver of the winning frame, its key bits read so far included;
or, where the start bit read recessive, no frame began and the run goes on (R149). -/
def BusInterface.loseArbitration (bus : BusInterface) (o : OwnFrame) (number : Station) : BusInterface :=
  if o.position = 0 then { bus with recessiveRun := bus.longerRun, current := .idle }
  else { bus with current := .receiving (Reader.start.hearAll (o.winnerBits number)) true false }

/-- LOST_ARBITRATION (R149): the last level read mismatches the start bit or a key bit of the own frame. With leave-pending set the
station goes IDLE (R93). -/
def execLostArbitration (line : Levels) (s : State) : Host.Outcome State Fault Refusal :=
  .next
    (match s.heard line with
     | some (.lostArbitration, u) =>
       match u.bus.current with
       | .own o =>
         let u := { u with bus := u.bus.loseArbitration o u.number, selector.winStreak := 0 }
         if u.sync.leavePending then u.goIdle else u
       | _ => s
     | _ => s)

/-- SPOILED_FRAME (R150): the last level read mismatches a bit after the key. The sender stops driving data and counts recessive bits
from there, starting at 0 after the mismatch (log 25). -/
def execSpoiledFrame (line : Levels) (s : State) : Host.Outcome State Fault Refusal :=
  .next
    (match s.heard line with
     | some (.spoiled, u) =>
       match u.bus.current with
       | .own o => { u with bus.current := .own { o with position := o.position + 1, spoil := some 0 } }
       | _ => s
     | _ => s)

/-- The recessive run a station begins to count out of step with (R147, log 9). -/
def runAfterLoss : PlaceLoss → Nat
  | .elevenRecessive  => Config.idleRun
  | .dominantAfterEnd => 0

/-- The station stops following the frame at the bit of the loss and is out of step; a SYNCED station leaves SYNCED with
MISSED_FRAME (R145, R154). -/
def State.losePlace (s : State) (how : PlaceLoss) : State :=
  let s :=
    { s with
      bus.inStep         := false,
      bus.recessiveRun   := runAfterLoss how,
      bus.current        := .idle,
      bus.badTail        := false,
      selector.winStreak := 0 }
  if s.sync.state = .synced then s.leaveSynced .missedFrame else s

/-- LOST_PLACE (R145): the receiver of a bad frame loses its place at the last level read. -/
def execLostPlace (line : Levels) (s : State) : Host.Outcome State Fault Refusal :=
  .next
    (match s.heard line with
     | some (.lostPlace how, u) => u.losePlace how
     | _ => s)

/-- Back in step: a start bit begins a frame that the station receives; after 22 recessive bits the bus is idle, and that bit time is
an offer point, which OFFER_POINT takes (R147). Whether the frame has a close here is read when REGAIN_STEP is taken, so a JOIN taken
between the start bit's level and that command gives it one (R75, R205; DESIGN CHOICE, log 31). -/
def State.regain (s : State) : StepGain → State
  | .startBit =>
    { s with
      bus.inStep       := true,
      bus.recessiveRun := 0,
      bus.current      := .receiving Reader.start s.ear.takesPart false }
  | .longRun => { s with bus.inStep := true, bus.due := some .offerPoint }

/-- REGAIN_STEP (R147): the last level read brings a station out of step back in step. -/
def execRegainStep (line : Levels) (s : State) : Host.Outcome State Fault Refusal :=
  .next
    (match s.heard line with
     | some (.regain how, u) => u.regain how
     | _ => s)

end Sys2Proof.Machine
end

