-- ==== Sys2Proof/Machine/Closes.lean ====
section
/-! DEFINITION. The closes of frames: UPDATE_CLOSE, EVICT_CLOSE, WIPE_CLOSE, PRESENCE_CLOSE, SYNC_REQUEST_CLOSE, OFFER_CLOSE,
SNAPSHOT_CLOSE, DISCARDED_CLOSE, BAD_FRAME_CLOSE. -/

namespace Sys2Proof.Machine

/-! ### UPDATE (R5, R12, R14, R41, R56) -/

/-- The evaluation of an update at this station, where it evaluates one (R5). -/
def State.evaluation (s : State) (sender : Station) (op : Op) (i : Index) : Option (Result × Rec) :=
  if s.follows i then some (evaluate s.table.records[i] sender op) else none

/-- The record change an evaluation calls for, and the watch check of another station's APPLIED change (R5, R14). -/
def State.applyEvaluation (s : State) (cl : Closing) (i : Index) : Option (Result × Rec) → State
  | none => s
  | some (r, record) =>
    let s := { s with table.records := put s.table.records i record }
    if cl.own = false ∧ r = .applied then s.noteChange i cl.sender else s

/-- The own head settled with the table unit's evaluation (R12, R56). -/
def State.settleEvaluation (s : State) (cl : Closing) : Option (Result × Rec) → State
  | none => s
  | some (r, record) => if cl.own then s.settleHead r record.version else s

/-- The acts at the close of a committed UPDATE: evidence, evaluation, count and fold, the own head settled (R32). -/
def actUpdate (cl : Closing) (s : State) : State :=
  match cl.frame with
  | .update ticket op i =>
    let out := s.evaluation cl.sender op i
    ((s.hearEvidence.applyEvaluation cl i out).countFrame (updateFoldBytes cl.sender ticket i)).settleEvaluation cl out
  | _ => s

/-- UPDATE_CLOSE (R5). -/
def execUpdateClose (line : Levels) (s : State) : Host.Outcome State Fault Refusal :=
  .next (s.closeCommitted line .update actUpdate)

/-! ### EVICT (R15, R16, R41, R134, R136) -/

/-- The peer unit at the close of a committed EVICT of `target` sent by `sender`, and the transfers with it (R134, R136). -/
def State.evictPeer (s : State) (target sender : Station) : State :=
  if target = s.number then s.post (.selfEvicted sender)
  else
    ((s.setPeer target { s.peers.entries[target].gone with evictPending := false }).post
      (.peerEvicted target sender)).loseTransfers target

/-- The acts at the close of a committed EVICT (R15, R41, R134, R136). -/
def actEvict (cl : Closing) (s : State) : State :=
  match cl.frame with
  | .evict target =>
    ((s.hearEvidence.releaseClaims target).countFrame (evictFoldBytes cl.sender target)).evictPeer target cl.sender
  | _ => s

/-- EVICT_CLOSE (R134). -/
def execEvictClose (line : Levels) (s : State) : Host.Outcome State Fault Refusal :=
  .next (s.closeCommitted line .evict actEvict)

/-! ### WIPE (R17, R43, R68, R90) -/

/-- The replica zeroed and covered, the new lineage taken, and a pending WIPE withdrawn (R17, R43, R89). -/
def State.takeWipe (s : State) (sender : Station) (g : Half) : State :=
  { s.zeroRecords.coverAll true with
    sync.position    := ⟨g, some sender, 0, 0⟩,
    sync.wipePending := none }

/-- The acts at the close of a committed WIPE, by the station state (R68, R90). -/
def actWipe (cl : Closing) (s : State) : State :=
  match cl.frame with
  | .wipe g =>
    let s := s.cancel .cancelledWipe
    match s.sync.state with
    | .synced => ((s.takeWipe cl.sender g).endServing .wiped).post (.wiped cl.sender g)
    | .syncing .. =>
      ((s.takeWipe cl.sender g).becomeSynced.post (.wiped cl.sender g)).post (.stateChanged .synced .wiped)
    | _ => s.hearEvidence
  | _ => s

/-- WIPE_CLOSE (R90). -/
def execWipeClose (line : Levels) (s : State) : Host.Outcome State Fault Refusal :=
  .next (s.closeCommitted line .wipe actWipe)

/-! ### PRESENCE (R76, R83, R84, R86, R124 to R128, R131) -/

/-- A received interval, taken within 2 to 250 (R124). -/
def clampInterval (b : Byte) : Nat := min 250 (max 2 b.toNat)

/-- The last-heard fields written, the watch timer restarted at twice the advertised P, evict-pending cleared (R124). -/
def Peer.heard (p : Peer) (state interval : Byte) (c : Carried) : Peer :=
  { p with
    advertisedP  := clampInterval interval,
    reported     := reportedOf state,
    lastPosition := positionOf c,
    watchTimer   := some (2 * clampInterval interval),
    evictPending := false }

/-- The hysteresis moved by a committed PRESENCE, by the state before it; the flag says whether the entry locks as PRESENT and
PEER_UP is posted (R125 to R128). -/
def Peer.arrive (p : Peer) (lockN : Nat) : Peer × Bool :=
  match p.state with
  | .absent =>
    if lockN = 1 then ({ p with state := .present, hits := 1, misses := 0 }, true)
    else ({ p with state := .arriving, hits := 1, misses := 0 }, false)
  | .arriving =>
    if p.hits + 1 = lockN then ({ p with state := .present, hits := p.hits + 1 }, true)
    else ({ p with hits := p.hits + 1 }, false)
  | .present => (p, false)
  | .fading  => ({ p with state := .present, misses := 0 }, false)

/-- The peer unit at the close of another station's committed PRESENCE; the SELF entry is never written (R121, R124). -/
def State.hearPeer (s : State) (x : Station) (state interval : Byte) (c : Carried) : State :=
  if x = s.number then s
  else
    let (p, up) := (s.peers.entries[x].heard state interval c).arrive s.port.inEffect.lockN
    let s := s.setPeer x p
    if up then s.post (.peerUp x) else s

/-- The relation of a peer entry written; none is set on the SELF entry (R84, R131). -/
def State.setRelation (s : State) (x : Station) (r : Relation) : State :=
  if x = s.number then s else s.setPeer x { s.peers.entries[x] with relation := r }

/-- Lower-heard, for a PRESENCE from a lower-numbered station reporting LISTEN, SYNCING or STRANDED (R76). -/
def State.hearLower (s : State) (x : Station) (r : Option Reported) : State :=
  if x < s.number ∧ (r = some .listen ∨ r = some .syncing ∨ r = some .stranded) then
    { s with sync.lowerHeard := true }
  else s

/-- The comparison of positions between two SYNCED stations, and what it leads to (R84, R86, R131). -/
def State.compareWith (s : State) (x : Station) (c : Carried) : State :=
  match comparePositions c s.sync.position.carried with
  | .ahead  => s.leaveSynced .behind
  | .behind => s.setRelation x .lagging
  | .equal  => s.setRelation x .consistent

/-- The sync controller at the close of another station's committed PRESENCE, by the station state (R76, R83, R84). -/
def State.weighPresence (s : State) (x : Station) (r : Option Reported) (c : Carried) : State :=
  match s.sync.state with
  | .synced => if r = some .synced then s.compareWith x c else s.setRelation x .unknown
  | .listen =>
    let s := s.setRelation x .unknown
    if r = some .synced then s.hearEvidence else s.hearLower x r
  | .stranded =>
    let s := s.setRelation x .unknown
    if r = some .synced then s.beginRequest.post (.stateChanged .syncing .syncedPeerHeard) else s.hearLower x r
  | _ => s.setRelation x .unknown

/-- The acts at the close of a committed PRESENCE: an own one only clears the pending flag (R121, R123, R124). -/
def actPresence (cl : Closing) (s : State) : State :=
  match cl.frame with
  | .presence state interval c =>
    if cl.own then { s with peers.presencePending := false }
    else (s.hearPeer cl.sender state interval c).weighPresence cl.sender (reportedOf state) c
  | _ => s

/-- PRESENCE_CLOSE (R124). -/
def execPresenceClose (line : Levels) (s : State) : Host.Outcome State Fault Refusal :=
  .next (s.closeCommitted line .presence actPresence)

/-! ### SYNC_REQUEST and OFFER (R99, R101 to R104, R107) -/

/-- The requester at the close of its own committed SYNC_REQUEST (R99). -/
def State.requestSent (s : State) : State :=
  match s.sync.state with
  | .syncing .requesting _ _ =>
    if s.sync.syncRequest then
      { s with sync.syncRequest := false, sync.offerTimer := some s.port.inEffect.presenceInterval }
    else s
  | _ => s

/-- The offer slot after a request from `j`: set, moved to the new start segment, or left to another joiner (R102). -/
def offerFor (slot : Option OfferSlot) (j : Station) (k : Segment) : OfferSlot :=
  match slot with
  | none   => ⟨j, k⟩
  | some o => if o.joiner = j then ⟨j, k⟩ else o

/-- A SYNCED station at the close of a committed SYNC_REQUEST from `j`: a transfer served to `j` ends first, then the offer slot
is acted on (R102, R107). -/
def State.answerRequest (s : State) (j : Station) (k : Segment) : State :=
  if s.sync.state = .synced then
    let s := match s.sync.donor with
      | some d => if d.joiner = j then s.endServing .reRequested else s
      | none   => s
    if s.port.inEffect.donorEnable ∧ s.sync.donor = none ∧ j ≠ s.number then
      { s with sync.offer := some (offerFor s.sync.offer j k) }
    else s
  else s

/-- The acts at the close of a committed SYNC_REQUEST (R99, R102). -/
def actSyncRequest (cl : Closing) (s : State) : State :=
  match cl.frame with
  | .syncRequest k => if cl.own then s.requestSent else s.answerRequest cl.sender k
  | _ => s

/-- SYNC_REQUEST_CLOSE (R102). -/
def execSyncRequestClose (line : Levels) (s : State) : Host.Outcome State Fault Refusal :=
  .next (s.closeCommitted line .syncRequest actSyncRequest)

/-- The sender of a committed OFFER begins serving (R104). -/
def State.beginServing (s : State) (j : Station) (k : Segment) : State :=
  if s.sync.state = .synced then { s with sync.donor := some ⟨j, k, 0⟩, sync.offer := none } else s

/-- Any other station's committed OFFER for `j` withdraws a pending OFFER for it (R103). -/
def State.withdrawOffer (s : State) (j : Station) : State :=
  match s.sync.offer with
  | some o => if o.joiner = j then { s with sync.offer := none } else s
  | none => s

/-- A joiner in REQUESTING takes an OFFER that names it and starts at its next segment (R101). -/
def State.takeOffer (s : State) (donor j : Station) (k : Segment) : State :=
  match s.sync.state with
  | .syncing .requesting next attempts =>
    if j = s.number ∧ k = next then
      { s with
        sync.state        := .syncing (.receiving donor) next attempts,
        sync.syncRequest  := false,
        sync.offerTimer   := none,
        sync.segmentTimer := some (4 * s.port.inEffect.presenceInterval) }
    else s
  | _ => s

/-- The acts at the close of a committed OFFER (R101, R103, R104). -/
def actOffer (cl : Closing) (s : State) : State :=
  match cl.frame with
  | .offer j k =>
    if cl.own then s.hearEvidence.beginServing j k
    else (s.hearEvidence.withdrawOffer j).takeOffer cl.sender j k
  | _ => s

/-- OFFER_CLOSE (R101). -/
def execOfferClose (line : Levels) (s : State) : Host.Outcome State Fault Refusal :=
  .next (s.closeCommitted line .offer actOffer)

/-! ### SNAPSHOT (R20, R81, R106, R109 to R112) -/

/-- The donor at the COMMITTED close of its own SNAPSHOT (R106). -/
def State.settleSegment (s : State) : State :=
  match s.sync.donor with
  | none => s
  | some d =>
    if h : d.next.val < 15 then
      { s with sync.donor := some ⟨d.joiner, ⟨d.next.val + 1, by omega⟩, 0⟩ }
    else s.endServing .done

/-- The donor at the DISCARDED close of its own SNAPSHOT: the segment attempts rise, and at RETRY_LIMIT serving ends
(R33, R106, log 11). -/
def State.failSegment (s : State) : State :=
  match s.sync.donor with
  | none => s
  | some d =>
    if d.attempts + 1 < s.port.inEffect.retryLimit then
      { s with sync.donor := some { d with attempts := d.attempts + 1 } }
    else s.endServing .failed

/-- Every segment is covered. -/
def State.allCovered (s : State) : Bool :=
  (List.finRange 16).all fun k => s.table.covered[k]

/-- A segment accepted by a joiner receiving from `d`: overwritten and covered, the timer restarted, the next segment raised; the
station becomes SYNCED when segment 15 completes the coverage (R20, R81, R110, R111, log 12). -/
def State.acceptSegment (s : State) (d : Station) (k : Segment) (rs : Vector Rec 16) (attempts : Nat) : State :=
  let s := s.overwriteSegment k rs
  if h : k.val < 15 then
    { s with
      sync.state        := .syncing (.receiving d) ⟨k.val + 1, by omega⟩ attempts,
      sync.segmentTimer := some (4 * s.port.inEffect.presenceInterval) }
  else if s.allCovered then s.becomeSynced.post (.stateChanged .synced .transferDone)
  else { s with sync.segmentTimer := some (4 * s.port.inEffect.presenceInterval) }

/-- A failed position check restarts the transfer from segment 0 (R112). -/
def State.restartTransfer (s : State) (attempts : Nat) : State :=
  (((s.coverAll false).dropPosition).post (.transferRestart .countMismatch)).retry 0 attempts

/-- A joiner at the close of a committed SNAPSHOT: accepted, restarted or disregarded (R109 to R112). -/
def State.receiveSegment (s : State) (sender j : Station) (k : Segment) (c : Carried) (rs : Vector Rec 16) : State :=
  match s.sync.state with
  | .syncing (.receiving d) next attempts =>
    if j = s.number ∧ sender = d ∧ k = next then
      if next = 0 then ({ s with sync.position := positionOf c }).acceptSegment d k rs attempts
      else if s.sync.position = positionOf c then s.acceptSegment d k rs attempts
      else s.restartTransfer attempts
    else s
  | _ => s

/-- The acts at the close of a committed SNAPSHOT (R106, R109). -/
def actSnapshot (cl : Closing) (s : State) : State :=
  match cl.frame with
  | .snapshot j k c rs =>
    if cl.own then s.hearEvidence.settleSegment else s.hearEvidence.receiveSegment cl.sender j k c rs
  | _ => s

/-- SNAPSHOT_CLOSE (R109). -/
def execSnapshotClose (line : Levels) (s : State) : Host.Outcome State Fault Refusal :=
  .next (s.closeCommitted line .snapshot actSnapshot)

/-! ### DISCARDED and bad frames (R29, R33 to R38, R150, R151) -/

/-- The bus interface and the transmit selector at the close of an own spoiled frame: the slot was driven, and the reject streak
stays (R35, R38, R150, R154). -/
def State.closeSpoiled (s : State) (f : Frame) : State :=
  { s.frameEnds false with
    bus.slotDriven := true,
    selector       := s.selector.afterOwn f.kind s.port.inEffect.yieldN }

/-- The source of an own DISCARDED frame settles the attempt by the kind's rule; five kinds simply stay pending (R33). -/
def State.settleDiscarded (s : State) : Frame → State
  | .update ..   => s.failHead
  | .snapshot .. => s.failSegment
  | _            => s

/-- The spoil streak rises, and on reaching 3 NUMBER_CLASH is posted (R151). -/
def State.raiseSpoil (s : State) : State :=
  if s.bus.spoilStreak < 3 then
    let s' := { s with bus.spoilStreak := s.bus.spoilStreak + 1 }
    if s.bus.spoilStreak + 1 = 3 then s'.post .numberClash else s'
  else s

/-- The close of an own spoiled frame; NUMBER_CLASH follows the events of the frame's source (R38, R151). -/
def State.spoiledClose (s : State) (f : Frame) : State :=
  ((s.closeSpoiled f).settleDiscarded f).raiseSpoil

/-- The close of a frame whose slot another station drove; a receiver lets it go (R29, R30, R33). -/
def State.rejectedClose (s : State) (cl : Closing) : State :=
  if cl.own then (s.closeMatched cl).settleDiscarded cl.frame else s.closeMatched cl

/-- DISCARDED_CLOSE (R33). -/
def execDiscardedClose (line : Levels) (s : State) : Host.Outcome State Fault Refusal :=
  .next
    (match s.closing line with
     | some (.discarded cl spoiled, u) =>
       if u.handsClose then
         (if spoiled then u.spoiledClose cl.frame else u.rejectedClose cl).afterOwnClose cl.own
       else u.frameEnds false
     | _ => s)

/-- The close of a bad frame. A station that rejects it has driven the slot and its reject streak rises; a SYNCED station whose
streak stands at the budget leaves SYNCED; any other changes nothing more (R34 to R37). -/
def State.badClose (s : State) (rejecting : Bool) : State :=
  let s := { s.frameEnds true with bus.slotDriven := rejecting, selector.winStreak := 0 }
  if rejecting then { s with bus.rejectStreak := s.bus.rejectStreak + 1 }
  else if s.sync.state = .synced ∧ s.port.inEffect.rejectBudget ≤ s.bus.rejectStreak then s.leaveSynced .missedFrame
  else s

/-- BAD_FRAME_CLOSE (R29). -/
def execBadFrameClose (line : Levels) (s : State) : Host.Outcome State Fault Refusal :=
  .next
    (match s.closing line with
     | some (.bad rejecting, u) => if u.handsClose then u.badClose rejecting else u.frameEnds true
     | _ => s)

end Sys2Proof.Machine
end

