-- ==== Sys2Proof/Machine/HostChanges.lean ====
section
/-! DEFINITION. The host's changes and its hold on the queue: WRITE, CSWAP, CLAIM, RELEASE, WIPE, RESUME, DISCARD_HEAD. -/

namespace Sys2Proof.Machine

/-- An accepted change takes the ticket counter's value and joins the tail of the outbound queue (R51). -/
def State.acceptChange (s : State) (op : Op) (i : Index) : State :=
  { s with
    update.outbound := s.update.outbound ++ [⟨s.update.ticket, op, i, 0⟩],
    update.ticket   := s.update.ticket + 1 }

/-- A change command's tests and action (R50, R51, R175). -/
def changeReply (op : Op) (i : Index) (s : State) : Reply :=
  if s.sync.state ≠ .synced ∨ s.sync.leavePending then refuse s .state 1
  else if Config.outboundLimit ≤ s.update.outbound.length then refuse s .noCredit 1
  else if Config.creditLimit ≤ s.update.outbound.length + s.update.completions.length then refuse s .noCredit 1
  else ⟨.ok, [s.update.ticket], s.acceptChange op i⟩

/-- WRITE (R50, R175). -/
def execWrite (i : Index) (v : Value) (s : State) : Host.Outcome State Fault Refusal :=
  .next (s.takeCommand 1 (changeReply (.write v) i))

/-- CSWAP (R50, R175). -/
def execCswap (i : Index) (e : Half) (v : Value) (s : State) : Host.Outcome State Fault Refusal :=
  .next (s.takeCommand 1 (changeReply (.cswap e v) i))

/-- CLAIM (R50, R175). -/
def execClaim (i : Index) (s : State) : Host.Outcome State Fault Refusal :=
  .next (s.takeCommand 1 (changeReply .claim i))

/-- RELEASE (R50, R175). -/
def execRelease (i : Index) (s : State) : Host.Outcome State Fault Refusal :=
  .next (s.takeCommand 1 (changeReply .release i))

/-- WIPE's tests and action; the new generation is taken again at each offer (R89, R176, log 16). -/
def wipeReply (s : State) : Reply :=
  if s.sync.state ≠ .synced ∨ s.sync.leavePending then refuse s .state 0
  else if s.sync.wipePending.isSome then refuse s .busy 0
  else ⟨.ok, [], { s with sync.wipePending := some (s.sync.position.generation + 1) }⟩

/-- WIPE (R89, R176). -/
def execWipe (s : State) : Host.Outcome State Fault Refusal :=
  .next (s.takeCommand 0 wipeReply)

/-- The head's attempts set to 0 and HELD cleared (R61). -/
def State.resumeHead (s : State) : State :=
  { s with
    update.outbound :=
      match s.update.outbound with
      | [] => []
      | e :: rest => { e with attempts := 0 } :: rest,
    update.held := false }

/-- RESUME's test and action (R61, R177). -/
def resumeReply (s : State) : Reply :=
  if s.update.held then ⟨.ok, [], s.resumeHead⟩ else refuse s .state 0

/-- RESUME (R61). -/
def execResume (s : State) : Host.Outcome State Fault Refusal :=
  .next (s.takeCommand 0 resumeReply)

/-- The head removed with completion DISCARDED and HELD cleared (R62). -/
def State.discardHead (s : State) : State :=
  { s with
    update.outbound    := s.update.outbound.tail,
    update.completions := s.update.completions ++ (s.update.outbound.take 1).map (·.ended .discarded),
    update.held        := false }

/-- DISCARD_HEAD's test and action (R62, R177). -/
def discardHeadReply (s : State) : Reply :=
  if s.update.held then ⟨.ok, [], s.discardHead⟩ else refuse s .state 0

/-- DISCARD_HEAD (R62). -/
def execDiscardHead (s : State) : Host.Outcome State Fault Refusal :=
  .next (s.takeCommand 0 discardHeadReply)

end Sys2Proof.Machine
end

