-- ==== Sys2Proof/Machine/HostSession.lean ====
section
/-! DEFINITION. The host's session commands: STATUS, CONFIGURE, JOIN, LEAVE, SET_INTERRUPTS, BAD_COMMAND. -/

namespace Sys2Proof.Machine

/-- STATUS (R171): 29 bytes taken at one point; the one command answered during the start-up clear (R169). -/
def execStatus (s : State) : Host.Outcome State Fault Refusal :=
  .next (if s.port.phase = .command then s.answer .ok s.statusBytes else s)

/-- CONFIGURE's tests and action (R172, R199). -/
def configureReply (o : ConfigOperands) (s : State) : Reply :=
  if s.sync.state ≠ .idle ∨ s.sync.leavePending then refuse s .state 1
  else
    match configFault o with
    | some ordinal => badParam s ordinal 1
    | none => ⟨.ok, [0], { s with port.stored := configParams o }⟩

/-- CONFIGURE (R172). -/
def execConfigure (o : ConfigOperands) (s : State) : Host.Outcome State Fault Refusal :=
  .next (s.takeCommand 1 (configureReply o))

/-- Everything that takes place when the sync controller moves the station from IDLE to LISTEN (R25, R75, R96, R119, R138,
R154, R155, R200). -/
def State.joinSession (s : State) : State :=
  let s := ((s.enter .listen).zeroRecords.coverAll false).dropPosition
  { s with
    port.inEffect         := s.port.stored,
    sync.leavePending     := false,
    sync.listenTimer      := some (3 * s.port.stored.presenceInterval),
    sync.evidenceHeard    := false,
    sync.lowerHeard       := false,
    sync.wipePending      := none,
    sync.syncRequest      := false,
    sync.donor            := none,
    sync.offer            := none,
    sync.offerTimer       := none,
    sync.segmentTimer     := none,
    peers.entries         := tab fun _ => Peer.fresh,
    peers.presenceTimer   := some s.port.stored.presenceInterval,
    peers.presencePending := true,
    bus.spoilStreak       := 0,
    bus.current           := s.bus.current.withoutClose,
    selector              := ⟨0, false⟩ }.post (.stateChanged .listen .joined)

/-- JOIN's test and action (R75, R173). -/
def joinReply (s : State) : Reply :=
  if s.sync.state ≠ .idle then refuse s .state 0 else ⟨.ok, [], s.joinSession⟩

/-- JOIN (R75). -/
def execJoin (s : State) : Host.Outcome State Fault Refusal :=
  .next (s.takeCommand 0 joinReply)

/-- LEAVE's tests and action (R91). -/
def leaveReply (s : State) : Reply :=
  if s.sync.state = .idle then refuse s .state 0
  else if s.sync.leavePending then refuse s .busy 0
  else if s.ownInFlight then ⟨.ok, [], { s with sync.leavePending := true }⟩
  else ⟨.ok, [], s.goIdle⟩

/-- LEAVE (R91). -/
def execLeave (s : State) : Host.Outcome State Fault Refusal :=
  .next (s.takeCommand 0 leaveReply)

/-- SET_INTERRUPTS' tests and action (R182). -/
def setInterruptsReply (events completions : Byte) (s : State) : Reply :=
  if 1 < events.toNat then badParam s 1 0
  else if 1 < completions.toNat then badParam s 2 0
  else
    ⟨.ok, [],
      { s with
        port.eventEnable      := decide (events = 1),
        port.completionEnable := decide (completions = 1) }⟩

/-- SET_INTERRUPTS (R182). -/
def execSetInterrupts (events completions : Byte) (s : State) : Host.Outcome State Fault Refusal :=
  .next (s.takeCommand 0 (setInterruptsReply events completions))

/-- BAD_COMMAND (R169): a code that names no command is taken at the last bit of the command byte. A code that names one is not
this event (log 6). -/
def execBadCommand (code : Byte) (s : State) : Host.Outcome State Fault Refusal :=
  .next (if namesCommand code then s else s.takeCommand 0 fun s => refuse s .badCommand 0)

end Sys2Proof.Machine
end

