-- ==== Sys2Proof/Machine/HostTable.lean ====
section
/-! DEFINITION. The host's reads, watches and takes: READ_RECORD, WATCH, UNWATCH, TAKE_COMPLETION, TAKE_EVENT, READ_PEER. -/

namespace Sys2Proof.Machine

/-- READ_RECORD (R22, R174). -/
def execReadRecord (i : Index) (s : State) : Host.Outcome State Fault Refusal :=
  .next (s.takeCommand 21 fun s => ⟨.ok, s.recordBytes i, s⟩)

/-- WATCH (R181, R189). -/
def execWatch (i : Index) (s : State) : Host.Outcome State Fault Refusal :=
  .next (s.takeCommand 0 fun s => ⟨.ok, [], { s with table.watch := put s.table.watch i true }⟩)

/-- The event is a RECORD_CHANGED for record `i` (R190). -/
def Event.changesRecord (e : Event) (i : Index) : Bool :=
  match e with
  | .recordChanged j _ => decide (j = i)
  | _ => false

/-- UNWATCH's action: both flags cleared and the pending RECORD_CHANGED removed; nothing is counted as lost (R191). -/
def State.unwatch (s : State) (i : Index) : State :=
  { s with
    table.watch         := put s.table.watch i false,
    table.changePending := put s.table.changePending i false,
    port.events         := s.port.events.filter fun e => !e.changesRecord i }

/-- UNWATCH (R181, R191). -/
def execUnwatch (i : Index) (s : State) : Host.Outcome State Fault Refusal :=
  .next (s.takeCommand 0 fun s => ⟨.ok, [], s.unwatch i⟩)

/-- TAKE_COMPLETION's test and action (R64, R178). -/
def takeCompletionReply (s : State) : Reply :=
  match s.update.completions with
  | [] => refuse s .empty 11
  | c :: rest => ⟨.ok, completionBytes c, { s with update.completions := rest }⟩

/-- TAKE_COMPLETION (R178). -/
def execTakeCompletion (s : State) : Host.Outcome State Fault Refusal :=
  .next (s.takeCommand 11 takeCompletionReply)

/-- The oldest event leaves the queue; a RECORD_CHANGED clears its record's change-pending flag (R187). -/
def State.dropEvent (s : State) (e : Event) (rest : List Event) : State :=
  match e with
  | .recordChanged i _ =>
    { s with port.events := rest, table.changePending := put s.table.changePending i false }
  | _ => { s with port.events := rest }

/-- TAKE_EVENT's test and action; on an empty queue the lost-event count is cleared (R179, R187). -/
def takeEventReply (s : State) : Reply :=
  match s.port.events with
  | [] => refuse { s with port.lost := 0 } .empty 4
  | e :: rest => ⟨.ok, eventBytes e, s.dropEvent e rest⟩

/-- TAKE_EVENT (R187). -/
def execTakeEvent (s : State) : Host.Outcome State Fault Refusal :=
  .next (s.takeCommand 4 takeEventReply)

/-- READ_PEER's test and result (R121, R137, R180). -/
def readPeerReply (number : Byte) (s : State) : Reply :=
  match nibbleField number with
  | none => badParam s 1 18
  | some x => ⟨.ok, if x = s.number then selfBytes else peerBytes s.peers.entries[x], s⟩

/-- READ_PEER (R180). -/
def execReadPeer (number : Byte) (s : State) : Host.Outcome State Fault Refusal :=
  .next (s.takeCommand 18 (readPeerReply number))

end Sys2Proof.Machine
end

