-- ==== Sys2Proof/Machine/ResetPort.lean ====
section
/-! DEFINITION. Hard reset, the end of the start-up clear, and the edges of SCS#: HARD_RESET, START_UP_CLEAR_COMPLETE,
TRANSACTION_START, TRANSACTION_TRUNCATED, TRANSACTION_END. -/

namespace Sys2Proof.Machine

/-- HARD_RESET (R195, R196): at its end the straps are sampled, every block takes its hard-reset values, and the start-up clear
begins. The records keep their contents until the clear has written them (R24, log 2). SCS# low then is ignored until it
rises (R183). -/
def execHardReset (sn : BitVec 4) (br : BitVec 2) (scsLow : Bool) (s : State) : Host.Outcome State Fault Refusal :=
  .next
    { State.reset with
      straps  := ⟨sn.toFin, bitRateOf br⟩,
      table   := { TableUnit.reset with records := s.table.records },
      port    := { HostPort.reset with phase := if scsLow then .ignoring else .idle },
      clock   := s.clock,
      pending := s.pending }

/-- START_UP_CLEAR_COMPLETE (R197): the last record is written to zero and STARTING is cleared. -/
def execStartUpClearComplete (s : State) : Host.Outcome State Fault Refusal :=
  .next (if s.port.starting then { s.zeroRecords with port.starting := false } else s)

/-- TRANSACTION_START (R165): a falling edge of SCS# begins a transaction. The levels read before its command is taken are followed
first, so that JOIN and LEAVE fall at their bit (R27, R47, log 19). -/
def execTransactionStart (s : State) (line : Levels := []) : Host.Outcome State Fault Refusal :=
  .next
    (if s.port.phase = .idle then
      { s with bus := (s.bus.follow s.ear line).getD s.bus, port.phase := .command }
    else s)

/-- TRANSACTION_TRUNCATED (R167): SCS# rises before the command is taken. With at least one bit sampled the prior-truncated
flag is set; with none nothing else changes. After a reset with SCS# low the rise only ends the ignoring (R183). -/
def execTransactionTruncated (bits : List Bool) (s : State) : Host.Outcome State Fault Refusal :=
  .next
    (match s.port.phase with
     | .command =>
       if beforeTaking bits then
         { s with port.phase := .idle, port.priorTruncated := s.port.priorTruncated || !bits.isEmpty }
       else s
     | .ignoring => { s with port.phase := .idle }
     | _ => s)

/-- TRANSACTION_END (R166): SCS# rises after the taking point; the result buffer is dropped and SDO goes three-state. After a
reset with SCS# low the rise only ends the ignoring (R183). -/
def execTransactionEnd (s : State) : Host.Outcome State Fault Refusal :=
  .next
    (match s.port.phase with
     | .result   => { s with port.phase := .idle, port.result := [] }
     | .ignoring => { s with port.phase := .idle }
     | _ => s)

end Sys2Proof.Machine
end

