-- ==== Sys2Proof/Machine/Timers.lean ====
section
/-! DEFINITION. Timer expiries, and the millisecond that passes on an empty queue: LISTEN_TIMER_EXPIRY, PRESENCE_TIMER,
OFFER_TIMER_EXPIRY, SEGMENT_TIMER_EXPIRY, WATCH_TIMER_EXPIRY. A stopped timer does not expire (R201). -/

namespace Sys2Proof.Machine

/-- The listen timer's expiry, by the state and the listen window record (R77, R83). -/
def State.endListenWindow (s : State) : State :=
  match s.sync.state with
  | .listen =>
    if s.sync.evidenceHeard || s.sync.lowerHeard then s.beginRequest.post (.stateChanged .syncing .joined)
    else s.found
  | .stranded =>
    if s.sync.evidenceHeard || s.sync.lowerHeard then
      { s with
        sync.listenTimer   := some (3 * s.port.inEffect.presenceInterval),
        sync.evidenceHeard := false,
        sync.lowerHeard    := false }
    else s.found
  | _ => s

/-- LISTEN_TIMER_EXPIRY (R77, R83). -/
def execListenTimerExpiry (s : State) : Host.Outcome State Fault Refusal :=
  .next (if s.sync.listenTimer.isSome then s.endListenWindow else s)

/-- PRESENCE_TIMER (R122): it fires every P and sets a fresh pending PRESENCE. -/
def execPresenceTimer (s : State) : Host.Outcome State Fault Refusal :=
  .next
    (if s.peers.presenceTimer.isSome then
      { s with
        peers.presencePending := true,
        peers.presenceTimer   := some s.port.inEffect.presenceInterval }
    else s)

/-- OFFER_TIMER_EXPIRY (R100). -/
def execOfferTimerExpiry (s : State) : Host.Outcome State Fault Refusal :=
  .next
    (if s.sync.offerTimer.isSome then
      match s.sync.state with
      | .syncing .requesting next attempts => s.retry next attempts
      | _ => s
    else s)

/-- SEGMENT_TIMER_EXPIRY (R113). -/
def execSegmentTimerExpiry (s : State) : Host.Outcome State Fault Refusal :=
  .next
    (if s.sync.segmentTimer.isSome then
      match s.sync.state with
      | .syncing (.receiving _) next attempts => (s.post (.transferRestart .timeout)).retry next attempts
      | _ => s
    else s)

/-- A PRESENT or FADING entry drops to ABSENT: PEER_DOWN, evict-pending where the station is SYNCED, then the transfers with
that peer end (R130, R132). -/
def State.dropPeer (s : State) (x : Station) : State :=
  let p := s.peers.entries[x].gone
  let synced := decide (s.sync.state = .synced)
  ((s.setPeer x { p with evictPending := p.evictPending || synced }).post (.peerDown x)).loseTransfers x

/-- One more miss of a PRESENT or FADING entry: it fades, or at UNLOCK_N drops to ABSENT (R127, R128). -/
def State.missPeer (s : State) (x : Station) (misses : Nat) : State :=
  if misses < s.port.inEffect.unlockN then
    s.setPeer x
      { s.peers.entries[x] with
        state      := .fading,
        misses     := misses,
        watchTimer := some (2 * s.peers.entries[x].advertisedP) }
  else s.dropPeer x

/-- The watch timer's expiry of entry `x`, by its state (R126, R127, R128, R130). -/
def State.expireWatch (s : State) (x : Station) : State :=
  match s.peers.entries[x].state with
  | .absent   => s
  | .arriving => (s.setPeer x s.peers.entries[x].gone).loseTransfers x
  | .present  => s.missPeer x 1
  | .fading   => s.missPeer x (s.peers.entries[x].misses + 1)

/-- WATCH_TIMER_EXPIRY (R127): the station's own number has no watch timer (R121). -/
def execWatchTimerExpiry (x : Station) (s : State) : Host.Outcome State Fault Refusal :=
  .next
    (if x ≠ s.number ∧ s.peers.entries[x].watchTimer.isSome then s.expireWatch x else s)

/-! ### The millisecond on an empty queue (R197, R201, log 3, log 4) -/

/-- A running timer counts down one millisecond. -/
def lowerTimer (t : Timer) : Timer := t.map fun n => n - 1

/-- A timer whose duration passes with this millisecond. -/
def fallsDue (t : Timer) : Bool := decide (t = some 1)

/-- The start-up clear's completion and the expiries that fall due with this millisecond, each with its number in a fixed
listing of the timers. -/
def State.dueEvents (s : State) : List (Nat × Instr) :=
  (if s.port.starting then [(0, .startUpClearComplete)] else [])
    ++ (if fallsDue s.sync.listenTimer then [(1, .listenTimerExpiry)] else [])
    ++ (if fallsDue s.peers.presenceTimer then [(2, .presenceTimer)] else [])
    ++ (if fallsDue s.sync.offerTimer then [(3, .offerTimerExpiry)] else [])
    ++ (if fallsDue s.sync.segmentTimer then [(4, .segmentTimerExpiry)] else [])
    ++ ((List.finRange 16).filter fun x => fallsDue s.peers.entries[x].watchTimer).map
        fun x => (5 + x.val, .watchTimerExpiry x)

/-- Put one event in its place by rank. -/
def insertByRank (rank : Nat → Nat) (e : Nat × Instr) : List (Nat × Instr) → List (Nat × Instr)
  | [] => [e]
  | d :: rest => if rank e.1 < rank d.1 then e :: d :: rest else d :: insertByRank rank e rest

/-- Events in the order of their ranks. -/
def orderByRank (rank : Nat → Nat) : List (Nat × Instr) → List (Nat × Instr)
  | [] => []
  | e :: rest => insertByRank rank e (orderByRank rank rest)

/-- One millisecond of the reference clock: every running timer counts down, and what falls due joins the queue in an order the
spec leaves open (R201, R202). -/
def State.tick (s : State) : State :=
  let lowered := s.mapPeers fun p => { p with watchTimer := lowerTimer p.watchTimer }
  { lowered with
    sync.listenTimer    := lowerTimer s.sync.listenTimer,
    sync.offerTimer     := lowerTimer s.sync.offerTimer,
    sync.segmentTimer   := lowerTimer s.sync.segmentTimer,
    peers.presenceTimer := lowerTimer s.peers.presenceTimer,
    clock               := s.clock + 1,
    pending             := s.pending ++ (orderByRank (Config.expiryRank s.clock) s.dueEvents).map Prod.snd }

end Sys2Proof.Machine
end

