-- ==== Sys2Proof/Machine/Dispatch.lean ====
section
/-! DEFINITION. One arm per command. -/

namespace Sys2Proof.Machine

def exec (i : Instr) (s : State) : Host.Outcome State Fault Refusal :=
  match i with
  | .hardReset sn br scsLow => Sys2Proof.Machine.execHardReset sn br scsLow s
  | .startUpClearComplete => Sys2Proof.Machine.execStartUpClearComplete s
  | .transactionTruncated bits => Sys2Proof.Machine.execTransactionTruncated bits s
  | .transactionEnd => Sys2Proof.Machine.execTransactionEnd s
  | .status => Sys2Proof.Machine.execStatus s
  | .configure operands => Sys2Proof.Machine.execConfigure operands s
  | .join => Sys2Proof.Machine.execJoin s
  | .leave => Sys2Proof.Machine.execLeave s
  | .readRecord index => Sys2Proof.Machine.execReadRecord index s
  | .write index value => Sys2Proof.Machine.execWrite index value s
  | .cswap index expected value => Sys2Proof.Machine.execCswap index expected value s
  | .claim index => Sys2Proof.Machine.execClaim index s
  | .release index => Sys2Proof.Machine.execRelease index s
  | .wipe => Sys2Proof.Machine.execWipe s
  | .resume => Sys2Proof.Machine.execResume s
  | .discardHead => Sys2Proof.Machine.execDiscardHead s
  | .takeCompletion => Sys2Proof.Machine.execTakeCompletion s
  | .takeEvent => Sys2Proof.Machine.execTakeEvent s
  | .readPeer number => Sys2Proof.Machine.execReadPeer number s
  | .watch index => Sys2Proof.Machine.execWatch index s
  | .unwatch index => Sys2Proof.Machine.execUnwatch index s
  | .setInterrupts events completions => Sys2Proof.Machine.execSetInterrupts events completions s
  | .badCommand code => Sys2Proof.Machine.execBadCommand code s
  | .offerPoint line => Sys2Proof.Machine.execOfferPoint s line
  | .lostArbitration line => Sys2Proof.Machine.execLostArbitration line s
  | .spoiledFrame line => Sys2Proof.Machine.execSpoiledFrame line s
  | .lostPlace line => Sys2Proof.Machine.execLostPlace line s
  | .regainStep line => Sys2Proof.Machine.execRegainStep line s
  | .badFrameClose line => Sys2Proof.Machine.execBadFrameClose line s
  | .discardedClose line => Sys2Proof.Machine.execDiscardedClose line s
  | .updateClose line => Sys2Proof.Machine.execUpdateClose line s
  | .evictClose line => Sys2Proof.Machine.execEvictClose line s
  | .wipeClose line => Sys2Proof.Machine.execWipeClose line s
  | .presenceClose line => Sys2Proof.Machine.execPresenceClose line s
  | .syncRequestClose line => Sys2Proof.Machine.execSyncRequestClose line s
  | .offerClose line => Sys2Proof.Machine.execOfferClose line s
  | .snapshotClose line => Sys2Proof.Machine.execSnapshotClose line s
  | .listenTimerExpiry => Sys2Proof.Machine.execListenTimerExpiry s
  | .presenceTimer => Sys2Proof.Machine.execPresenceTimer s
  | .offerTimerExpiry => Sys2Proof.Machine.execOfferTimerExpiry s
  | .segmentTimerExpiry => Sys2Proof.Machine.execSegmentTimerExpiry s
  | .watchTimerExpiry station => Sys2Proof.Machine.execWatchTimerExpiry station s
  | .transactionStart line => Sys2Proof.Machine.execTransactionStart s line

end Sys2Proof.Machine
end

