-- ==== Sys2Proof/WellFormed.lean ====
section
/-! DEFINITION. Which commands are well formed: the event their operands describe is the event of their row. -/

namespace Sys2Proof

open Machine

/-- A command is well formed: a truncation stops before a taking point (R167), a bad command names none (R169), and the last level read
at an offer point is not dominant (R146). Every other operand is legal in itself: what the levels of a line bring about depends on
the frame the station already follows, and what it refuses of a host command is its own answer (R168, log 6). -/
def Instr.wellFormed (i : Instr) : Bool :=
  match i with
  | .transactionTruncated bits => beforeTaking bits
  | .badCommand code           => !namesCommand code
  | .offerPoint line           => decide (line.getLast? ≠ some false)
  | .hardReset ..              => true
  | .startUpClearComplete      => true
  | .transactionEnd            => true
  | .status                    => true
  | .configure _               => true
  | .join                      => true
  | .leave                     => true
  | .readRecord _              => true
  | .write ..                  => true
  | .cswap ..                  => true
  | .claim _                   => true
  | .release _                 => true
  | .wipe                      => true
  | .resume                    => true
  | .discardHead               => true
  | .takeCompletion            => true
  | .takeEvent                 => true
  | .readPeer _                => true
  | .watch _                   => true
  | .unwatch _                 => true
  | .setInterrupts ..          => true
  | .lostArbitration _         => true
  | .spoiledFrame _            => true
  | .lostPlace _               => true
  | .regainStep _              => true
  | .badFrameClose _           => true
  | .discardedClose _          => true
  | .updateClose _             => true
  | .evictClose _              => true
  | .wipeClose _               => true
  | .presenceClose _           => true
  | .syncRequestClose _        => true
  | .offerClose _              => true
  | .snapshotClose _           => true
  | .listenTimerExpiry         => true
  | .presenceTimer             => true
  | .offerTimerExpiry          => true
  | .segmentTimerExpiry        => true
  | .watchTimerExpiry _        => true
  | .transactionStart _        => true

end Sys2Proof
end

