-- ==== Sys2Proof/Safety.lean ====
section
/-! DEFINITION. What a station must always hold to, and the words the claims are written in. -/

namespace Sys2Proof.Machine

/-! ### Words of the claims: the host port -/

/-- The host port is reading a command and the start-up clear has completed (R165, R197). -/
abbrev State.hostReady (s : State) : Prop := s.port.phase = .command ∧ s.port.starting = false

/-- The same station with a result buffer filled: status code and PRIOR_TRUNCATED, then the result bytes (R166, R168). -/
def State.replied (s : State) (code : Byte) (bytes : List Byte) : State :=
  { s with
    port :=
      { s.port with
        phase          := .result
        priorTruncated := false
        result         := (if s.port.priorTruncated then 0x80 ||| code else code) :: bytes } }

/-- Result bytes of a command code, the status byte excluded (09 section 9.4). -/
def resultLength (code : Byte) : Nat :=
  if code = 0x01 then 29
  else if code = 0x10 then 21
  else if code = 0x20 then 11
  else if code = 0x21 then 4
  else if code = 0x22 then 18
  else if code ∈ [0x02, 0x11, 0x12, 0x13, 0x14] then 1
  else 0

/-- Operand `k` of CONFIGURE lies in the range of its parameter; an ordinal that names no operand has no range to leave (R199). -/
def ConfigOperands.inRangeAt (o : ConfigOperands) (k : Nat) : Prop :=
  match k with
  | 1 => 2 ≤ o.presenceInterval.toNat ∧ o.presenceInterval.toNat ≤ 250
  | 2 => 1 ≤ o.lockN.toNat ∧ o.lockN.toNat ≤ 15
  | 3 => 1 ≤ o.unlockN.toNat ∧ o.unlockN.toNat ≤ 7
  | 4 => o.retryLimit.toNat = 4 ∨ o.retryLimit.toNat = 8 ∨ o.retryLimit.toNat = 16 ∨ o.retryLimit.toNat = 32
  | 5 => o.failPolicy.toNat ≤ 1
  | 6 => o.yieldN.toNat ≤ 8
  | 7 => 1 ≤ o.rejectBudget.toNat ∧ o.rejectBudget.toNat ≤ 7
  | 8 => o.donorEnable.toNat ≤ 1
  | _ => True

/-! ### Words of the claims: closes -/

/-- The levels bring the station to the close of a frame of another station, in `u`: the station is out of IDLE and was when the frame
began, `r` is what it has read, and `rejecting` says that it has rejected the frame (R27, R141). -/
abbrev State.hearsFrame (s : State) (line : Levels) (r : Reader) (rejecting : Bool) (u : State) : Prop :=
  s.heard line = some (.close, u) ∧ u.sync.state ≠ .idle ∧ u.bus.current = .receiving r true rejecting

/-- The levels bring the station to the close of its own frame `o`, in `u`. -/
abbrev State.sendsFrame (s : State) (line : Levels) (o : OwnFrame) (u : State) : Prop :=
  s.heard line = some (.close, u) ∧ u.sync.state ≠ .idle ∧ u.bus.current = .own o

/-- The levels hand this station, in `u`, the close of the committed frame `f` of station `x` (R27, R29, R30): the frame received
reads as that, or, where `own`, `f` is the own frame in flight, its readback matched, its slot recessive, no leave pending. -/
def State.takesClose (s : State) (line : Levels) (own : Bool) (x : Station) (f : Frame) (u : State) : Prop :=
  if own then
    ∃ o, s.sendsFrame line o u ∧ o.frame = f ∧ o.spoil = none ∧ o.rejected = false ∧ u.sync.leavePending = false ∧ x = u.number
  else ∃ r rejecting, s.hearsFrame line r rejecting u ∧ r.committed = some (x, f)

/-- The command of the close of a committed frame of kind `k`. -/
def closeOf (k : Kind) (line : Levels) : Instr :=
  match k with
  | .presence    => .presenceClose line
  | .update      => .updateClose line
  | .wipe        => .wipeClose line
  | .evict       => .evictClose line
  | .syncRequest => .syncRequestClose line
  | .offer       => .offerClose line
  | .snapshot    => .snapshotClose line

/-- The levels bring the station to the end of the committed frame `f` of station `x`, own where `own`, whatever the state it is
in. -/
def State.carries (s : State) (line : Levels) (own : Bool) (x : Station) (f : Frame) : Prop :=
  ∃ u, s.heard line = some (.close, u) ∧
    if own then ∃ o, u.bus.current = .own o ∧ o.frame = f ∧ o.spoil = none ∧ o.rejected = false ∧ x = u.number
    else ∃ r closes rejecting, u.bus.current = .receiving r closes rejecting ∧ r.committed = some (x, f)

/-- The command closes the own frame `f`, whose readback matched throughout, as COMMITTED or as DISCARDED (R30). -/
abbrev State.matchedOwnClose (s : State) (i : Instr) (f : Frame) : Prop :=
  ∃ line o u, s.sendsFrame line o u ∧ o.frame = f ∧ o.spoil = none ∧
    i = if o.rejected then .discardedClose line else closeOf f.kind line

/-- The command closes the own spoiled frame `f` (R38). -/
abbrev State.spoiledOwnClose (s : State) (i : Instr) (f : Frame) : Prop :=
  ∃ line o u, s.sendsFrame line o u ∧ o.frame = f ∧ o.spoil.isSome = true ∧ i = .discardedClose line

/-- The command closes a frame of another station that was read intact, whatever its outcome (R29). -/
abbrev State.intactClose (s : State) (i : Instr) : Prop :=
  ∃ line r rejecting u, s.hearsFrame line r rejecting u ∧
    ((∃ x f, r.committed = some (x, f) ∧ i = closeOf f.kind line) ∨
      (r.discarded.isSome = true ∧ i = .discardedClose line))

/-- The command closes a bad frame; `rejecting` says that the station has rejected it (R28, R34). -/
abbrev State.badFrameCloses (s : State) (i : Instr) (rejecting : Bool) : Prop :=
  ∃ line r u, s.hearsFrame line r rejecting u ∧ r.bad = true ∧ i = .badFrameClose line

/-- The bus interface at the end of a frame; `bad` says whether it held a bad one (R145, R146). -/
def State.frameOver (s : State) (bad : Bool) : State :=
  { s with bus := { s.bus with current := .idle, recessiveRun := 0, badTail := bad } }

/-- The bus interface and the selector at the close of another station's frame read intact (R35, R146, R154). -/
def State.afterReceived (s : State) : State :=
  { s with
    bus      := { s.bus with current := .idle, recessiveRun := 0, badTail := false, slotDriven := false, rejectStreak := 0 }
    selector := { s.selector with winStreak := 0 } }

/-- The bus interface and the selector at the close of an own frame whose readback matched (R35, R146, R151, R154). -/
def State.afterSent (s : State) (f : Frame) : State :=
  { s with
    bus      :=
      { s.bus with
        current := .idle, recessiveRun := 0, badTail := false, slotDriven := false, rejectStreak := 0, spoilStreak := 0 }
    selector := s.selector.afterOwn f.kind s.port.inEffect.yieldN }

/-- The bus interface and the selector at the close of an own spoiled frame, the spoil streak still to be raised (R35, R38). -/
def State.afterSpoiled (s : State) (f : Frame) : State :=
  { s with
    bus      := { s.bus with current := .idle, recessiveRun := 0, badTail := false, slotDriven := true }
    selector := s.selector.afterOwn f.kind s.port.inEffect.yieldN }

/-- The bus interface and the selector at the DISCARDED close of the own frame `f`, the spoil streak still to be raised. -/
def State.afterDiscarded (s : State) (f : Frame) (spoiled : Bool) : State :=
  if spoiled then s.afterSpoiled f else s.afterSent f

/-- The spoil streak raised at the close of a spoiled frame, after the events of its source; NUMBER_CLASH on reaching 3 (R151). -/
def State.spoilCounted (s : State) (spoiled : Bool) : State :=
  if spoiled = false ∨ 3 ≤ s.bus.spoilStreak then s
  else if s.bus.spoilStreak = 2 then State.post { s with bus := { s.bus with spoilStreak := 3 } } .numberClash
  else { s with bus := { s.bus with spoilStreak := s.bus.spoilStreak + 1 } }

/-- The bus interface and the selector at the close of the committed frame `f`, own or received. -/
def State.afterClose (s : State) (own : Bool) (f : Frame) : State :=
  if own then s.afterSent f else s.afterReceived

/-! ### Words of the claims: state changes, each written out as one update -/

/-- Several events posted at one point, in order (R185). -/
def State.postAll (s : State) (events : List Event) : State := events.foldl State.post s

/-- The DONOR_ENDED of a serving station; nothing where it does not serve (R107). -/
def State.servingEnds (s : State) (why : EndReason) : List Event :=
  match s.sync.donor with
  | some d => [.donorEnded d.joiner why]
  | none   => []

/-- Completion records of the outbound entries, head first, with no version and no count (R66). -/
def State.cancelled (s : State) (why : Result) : List Completion :=
  s.update.outbound.map fun e => ⟨e.ticket, e.op, e.index, why, none, none⟩

/-- SYNCING in REQUESTING, from LISTEN or STRANDED (R79). -/
def State.nowRequesting (s : State) (cause : Cause) : State :=
  State.postAll
    { s with
      table := { s.table with covered := tab fun _ => false }
      sync  :=
        { s.sync with
          state := .syncing .requesting 0 0, position := ⟨0, none, 0, 0⟩, syncRequest := true, listenTimer := none }
      bus   := { s.bus with rejectStreak := 0 } }
    [.stateChanged .syncing cause]

/-- SYNCING in REQUESTING, from SYNCED (R79, R88). -/
def State.outOfSynced (s : State) (cause : Cause) : State :=
  State.postAll
    { s with
      table  := { s.table with covered := tab fun _ => false }
      update := { s.update with outbound := [], completions := s.update.completions ++ s.cancelled .cancelledResync, held := false }
      sync   :=
        { s.sync with
          state := .syncing .requesting 0 0, position := ⟨0, none, 0, 0⟩, syncRequest := true, listenTimer := none,
          wipePending := none, offer := none, donor := none }
      peers  :=
        { s.peers with entries := tab fun x => { s.peers.entries[x] with evictPending := false, relation := .unknown } }
      bus    := { s.bus with rejectStreak := 0 } }
    (s.servingEnds .leftSynced ++ [.stateChanged .syncing cause])

/-- IDLE, by a LEAVE (R92). -/
def State.nowIdle (s : State) : State :=
  State.postAll
    { s with
      update   := { s.update with outbound := [], completions := s.update.completions ++ s.cancelled .cancelledLeave, held := false }
      sync     :=
        { s.sync with
          state := .idle, leavePending := false, wipePending := none, syncRequest := false, offer := none, donor := none,
          listenTimer := none, offerTimer := none, segmentTimer := none }
      peers    :=
        { entries         := tab fun x => { s.peers.entries[x] with evictPending := false, watchTimer := none }
          presenceTimer   := none
          presencePending := false }
      bus      :=
        { s.bus with
          rejectStreak := 0
          current      := match s.bus.current with | .receiving r _ _ => .receiving r false false | c => c }
      selector := { winStreak := 0, sitOut := false } }
    (s.servingEnds .leftSynced ++ [.stateChanged .idle .left])

/-- STRANDED, when the request attempts reach 4 (R82); a pending leave stays pending (log 32). -/
def State.nowStranded (s : State) : State :=
  State.postAll
    { s with
      table := { s.table with covered := tab fun _ => false }
      sync  :=
        { s.sync with
          state := .stranded, position := ⟨0, none, 0, 0⟩, syncRequest := false, offerTimer := none, segmentTimer := none,
          listenTimer := some (3 * s.port.inEffect.presenceInterval), evidenceHeard := false, lowerHeard := false }
      bus   := { s.bus with rejectStreak := 0 } }
    [.stateChanged .stranded .attemptsExhausted]

/-- SYNCED by founding (R78). -/
def State.nowFounder (s : State) : State :=
  State.postAll
    { s with
      table := { s.table with records := tab fun _ => ⟨⟨0, 0, 0, 0⟩, 0, none, none⟩, covered := tab fun _ => true }
      sync  :=
        { s.sync with
          state := .synced, position := ⟨0, some s.straps.number, 0, 0⟩, syncRequest := false, listenTimer := none,
          offerTimer := none, segmentTimer := none }
      bus   := { s.bus with rejectStreak := 0 } }
    [.stateChanged .synced .founded]

/-- A failed attempt of a joiner: a re-request from `next` with the attempts raised, or, at the fourth, STRANDED (R116). -/
def State.attemptFailed (s : State) (next : Segment) (attempts : Nat) : State :=
  if attempts + 1 < 4 then
    { s with
      sync :=
        { s.sync with
          state := .syncing .requesting next (attempts + 1), syncRequest := true, offerTimer := none, segmentTimer := none } }
  else s.nowStranded

/-- The transfers with station `x` end: served to it, and received from it (R107, R114). -/
def State.peerLost (s : State) (x : Station) : State :=
  let s₁ : State :=
    match s.sync.donor with
    | some d =>
      if d.joiner = x then State.post { s with sync := { s.sync with donor := none } } (.donorEnded x .joinerLost) else s
    | none => s
  match s₁.sync.state with
  | .syncing (.receiving d) next attempts =>
    if d = x then (s₁.post (.transferRestart .donorLost)).attemptFailed next attempts else s₁
  | _ => s₁

/-- The position after one more ordered frame of the four bytes (R41, R42). -/
def Position.after (p : Position) (b0 b1 b2 b3 : Byte) : Position :=
  ⟨p.generation, p.origin, p.count + 1, foldDigest p.digest [b0, b1, b2, b3]⟩

/-- A peer entry after a committed PRESENCE, the relation apart, and the events it posts (R124 to R128). -/
def Peer.afterPresence (p : Peer) (x : Station) (lockN : Nat) (state interval : Byte) (c : Carried) : Peer × List Event :=
  let p' : Peer :=
    { p with
      advertisedP  := min 250 (max 2 interval.toNat)
      reported     :=
        if state = 1 then some .listen else if state = 2 then some .syncing
        else if state = 3 then some .synced else if state = 4 then some .stranded else none
      lastPosition := ⟨c.generation, some c.origin, c.count, c.digest⟩
      watchTimer   := some (2 * min 250 (max 2 interval.toNat))
      evictPending := false }
  match p.state with
  | .absent =>
    if lockN = 1 then ({ p' with state := .present, hits := 1, misses := 0 }, [.peerUp x])
    else ({ p' with state := .arriving, hits := 1, misses := 0 }, [])
  | .arriving =>
    if p.hits + 1 = lockN then ({ p' with state := .present, hits := p.hits + 1 }, [.peerUp x])
    else ({ p' with hits := p.hits + 1 }, [])
  | .present => (p', [])
  | .fading  => ({ p' with state := .present, misses := 0 }, [])

/-- One peer entry replaced. -/
def State.withPeer (s : State) (x : Station) (p : Peer) : State :=
  { s with peers := { s.peers with entries := put s.peers.entries x p } }

/-! ### Invariants -/

/-- Credit: at most 16 outbound entries, and at most 32 with the completion records (R48, R52). -/
abbrev State.creditOk (s : State) : Prop :=
  s.update.outbound.length ≤ 16 ∧ s.update.outbound.length + s.update.completions.length ≤ 32

/-- Events: at most 16, the lost-event count at most 255, and a record's change-pending flag set exactly while the queue holds
its one RECORD_CHANGED (R184, R186, R190). -/
abbrev State.eventsOk (s : State) : Prop :=
  s.port.events.length ≤ 16 ∧ s.port.lost ≤ 255 ∧
    ∀ i : Index, s.port.events.countP (fun e => e.changesRecord i) = if s.table.changePending[i] then 1 else 0

/-- History: coverage, lineage and joiner record as the station state says they are (R2, R40, R97, R116). -/
def State.historyOk (s : State) : Prop :=
  match s.sync.state with
  | .idle => True
  | .listen | .stranded => (∀ k : Segment, s.table.covered[k] = false) ∧ s.sync.position = Position.none
  | .syncing _ next attempts =>
    attempts < 4 ∧ (∀ k : Segment, s.table.covered[k] = decide (k < next)) ∧
      (s.sync.position.origin.isSome ↔ next ≠ 0) ∧
      (s.sync.position.origin = none → s.sync.position = Position.none)
  | .synced => (∀ k : Segment, s.table.covered[k] = true) ∧ s.sync.position.origin.isSome

/-- The station is listening for a history: LISTEN or STRANDED. -/
def StationState.listens (st : StationState) : Bool :=
  match st with
  | .listen | .stranded => true
  | _ => false

/-- The station is SYNCING in REQUESTING. -/
def StationState.requests (st : StationState) : Bool :=
  match st with
  | .syncing .requesting _ _ => true
  | _ => false

/-- The station is SYNCING in RECEIVING. -/
def StationState.receives (st : StationState) : Bool :=
  match st with
  | .syncing (.receiving _) _ _ => true
  | _ => false

/-- The event that the level read last brought about agrees with what is on the line (log 28). -/
def State.dueOk (s : State) : Prop :=
  match s.bus.due with
  | none => True
  | some .offerPoint | some (.lostPlace .dominantAfterEnd) => s.bus.current = .idle ∧ s.bus.inStep = true
  | some (.lostPlace .elevenRecessive) => ∃ r closes rejecting, s.bus.current = .receiving r closes rejecting
  | some (.regain _) => s.bus.current = .idle ∧ s.bus.inStep = false
  | some .lostArbitration | some .spoiled => ∃ o, s.bus.current = .own o ∧ o.spoil = none
  | some .close => s.bus.current ≠ .idle

/-- Roles: which state may hold a queue entry, a pending frame, a transfer, an evict-pending flag or a running timer
(R54, R68, R89, R92, R95, R97, R98, R122, R132); and which may follow a frame that closes or is rejected (R27, R34, R47). -/
structure State.RolesOk (s : State) : Prop where
  entries     : s.update.outbound ≠ [] → s.sync.state = .synced
  held        : s.update.held = true → s.update.outbound ≠ []
  wipe        : s.sync.wipePending.isSome → s.sync.state = .synced
  donor       : s.sync.donor.isSome → s.sync.state = .synced
  offer       : s.sync.offer.isSome → s.sync.state = .synced
  request     : s.sync.syncRequest = true → s.sync.state.requests = true
  evict       : ∀ x : Station, s.peers.entries[x].evictPending = true →
                  s.sync.state = .synced ∧ s.peers.entries[x].state = .absent
  listenTimer : s.sync.listenTimer.isSome = s.sync.state.listens
  offerTimer  : s.sync.offerTimer.isSome → s.sync.state.requests = true
  segment     : s.sync.segmentTimer.isSome = s.sync.state.receives
  presence    : s.peers.presenceTimer.isSome = decide (s.sync.state ≠ .idle)
  pending     : s.peers.presencePending = true → s.sync.state ≠ .idle
  leave       : s.sync.leavePending = true → s.ownInFlight = true
  flight      : s.ownInFlight = true → s.sync.state ≠ .idle
  step        : s.bus.current ≠ .idle → s.bus.inStep = true
  closes      : ∀ r rejecting, s.bus.current = .receiving r true rejecting → s.sync.state ≠ .idle
  rejects     : ∀ r closes, s.bus.current = .receiving r closes true → closes = true ∧ s.sync.state = .synced
  due         : s.dueOk

/-- The head in flight: while an own UPDATE is on the line the station is SYNCED, the queue is not HELD, and the head is the
entry on the line (R54, R55). -/
def State.headInFlightOk (s : State) : Prop :=
  ∀ o ticket op index, s.bus.current = .own o → o.frame = .update ticket op index →
    s.sync.state = .synced ∧ s.update.held = false ∧
      ∃ e rest, s.update.outbound = e :: rest ∧ e.ticket = ticket ∧ e.op = op ∧ e.index = index

/-- Ranges: every counter inside the range its rule gives, fill bits, readback and slot included, the head's attempts at RETRY_LIMIT
exactly where the queue is HELD and 0 behind the head, and both parameter sets in range (R34, R35, R49, R59, R98, R120, R140, R141, R150, R154, R199). -/
structure State.RangesOk (s : State) : Prop where
  stored   : s.port.stored.inRange = true
  inEffect : s.port.inEffect.inRange = true
  reject   : s.bus.rejectStreak ≤ s.port.inEffect.rejectBudget
  spoil    : s.bus.spoilStreak ≤ 3
  run      : s.bus.recessiveRun ≤ 22
  win      : s.selector.winStreak ≤ 8
  hits     : ∀ x : Station, s.peers.entries[x].hits ≤ 15
  arriving : ∀ x : Station, s.peers.entries[x].state = .arriving → s.peers.entries[x].hits < s.port.inEffect.lockN
  misses   : ∀ x : Station, s.peers.entries[x].misses ≤ 7
  interval : ∀ x : Station, s.peers.entries[x].advertisedP = 0 ∨
               2 ≤ s.peers.entries[x].advertisedP ∧ s.peers.entries[x].advertisedP ≤ 250
  head     : ∀ e rest, s.update.outbound = e :: rest →
               if s.update.held then e.attempts = s.port.inEffect.retryLimit else e.attempts < s.port.inEffect.retryLimit
  waiting  : ∀ e ∈ s.update.outbound.tail, e.attempts = 0
  donor    : ∀ d, s.sync.donor = some d → d.attempts < s.port.inEffect.retryLimit
  rejects  : ∀ r closes, s.bus.current = .receiving r closes true → s.bus.rejectStreak < s.port.inEffect.rejectBudget
  fill     : ∀ o count, s.bus.current = .own o → o.spoil = some count → count ≤ 10
  sent     : ∀ o, s.bus.current = .own o →
               o.position ≤ (sentBits s.straps.number o.frame).length + 1 ∨
               o.position = (sentBits s.straps.number o.frame).length + 2 ∧ s.bus.due = some .close
  slot     : ∀ r closes rejecting, s.bus.current = .receiving r closes rejecting →
               r.tail.length ≤ 4 ∨ r.tail.length = 5 ∧ s.bus.due = some .close

end Sys2Proof.Machine
end

