-- ==== Sys2Proof/Certificates/Slice0/Obligations.lean ====
section
/-! DEFINITION. The claims about the KP220: what its commands do, what every step keeps, and that its encodings read back. -/

open Sys2Proof Sys2Proof.Machine

/-! ### The machine -/

/-- One step runs the command at the front of the queue on the state with the rest of the queue (log 3). -/
def Obligations.StepRunsFrontCommand : Prop :=
  ∀ (c : Instr) (rest : List Instr) (s : State),
    step { s with pending := c :: rest } = exec c { s with pending := rest }

/-- On an empty queue one millisecond passes: every running timer counts down, and exactly the events that fall due join the
queue, each once. That a millisecond passes on an empty queue is the model's choice (log 3); the order of the events is free
(log 4). -/
def Obligations.EmptyQueuePassesOneMillisecond : Prop :=
  ∀ s : State, s.pending = [] →
    ∃ due : List Instr,
      step s = .next
        { s with
          sync :=
            { s.sync with
              listenTimer  := s.sync.listenTimer.map (· - 1)
              offerTimer   := s.sync.offerTimer.map (· - 1)
              segmentTimer := s.sync.segmentTimer.map (· - 1) }
          peers :=
            { s.peers with
              presenceTimer := s.peers.presenceTimer.map (· - 1)
              entries       := tab fun x =>
                { s.peers.entries[x] with watchTimer := s.peers.entries[x].watchTimer.map (· - 1) } }
          clock   := s.clock + 1
          pending := due } ∧
      due.Nodup ∧
      ∀ c : Instr, c ∈ due ↔
        (c = .startUpClearComplete ∧ s.port.starting = true) ∨
        (c = .listenTimerExpiry ∧ s.sync.listenTimer = some 1) ∨
        (c = .presenceTimer ∧ s.peers.presenceTimer = some 1) ∨
        (c = .offerTimerExpiry ∧ s.sync.offerTimer = some 1) ∨
        (c = .segmentTimerExpiry ∧ s.sync.segmentTimer = some 1) ∨
        (∃ x : Station, c = .watchTimerExpiry x ∧ s.peers.entries[x].watchTimer = some 1)

/-- Every command leaves the sampled straps as they stand unless it is a hard reset (R195). That every command answers a next state in
every state, and leaves the queue of commands and the millisecond clock as they stand, is the model's choice (logs 6, 24 and 4). -/
def Obligations.CommandsAnswerAndKeepStraps : Prop :=
  ∀ (c : Instr) (s : State), ∃ t : State,
    exec c s = .next t ∧ t.pending = s.pending ∧ t.clock = s.clock ∧
      ((∀ sn br low, c ≠ .hardReset sn br low) → t.straps = s.straps)

/-- An event joins the tail of the event queue while it holds fewer than 16; else it is lost and the lost-event count rises to
at most 255 (R185, R186). Nothing else changes. -/
def Obligations.PostedEventJoinsTailOrIsCounted : Prop :=
  ∀ (s : State) (e : Event),
    (s.port.events.length < 16 → s.post e = { s with port := { s.port with events := s.port.events ++ [e] } }) ∧
    (s.port.events.length = 16 → s.port.lost < 255 → s.post e = { s with port := { s.port with lost := s.port.lost + 1 } }) ∧
    (s.port.events.length = 16 → s.port.lost = 255 → s.post e = s)

/-! ### Reset and start-up -/

/-- A hard reset samples the straps and gives every block its hard-reset values (R24, R71, R96, R119, R138, R140, R183, R184,
R195, R199), and the completion of the start-up clear leaves all 256 records zero and clears STARTING (R197). The records wait
for the clear (log 2). With SCS# low the port ignores SCK until it rises (R183). -/
def Obligations.HardResetAndClearTakeResetValues : Prop :=
  ∀ (sn : BitVec 4) (br : BitVec 2) (scsLow : Bool) (s : State),
    exec (.hardReset sn br scsLow) s = .next
      { straps   :=
          { number  := ⟨sn.toNat, sn.isLt⟩
            bitRate := if br = 0 then .kbit250 else if br = 1 then .kbit500 else if br = 2 then .mbit1 else .mbit2 }
        table    :=
          { records := s.table.records, covered := tab fun _ => false, watch := tab fun _ => false
            changePending := tab fun _ => false }
        update   := { outbound := [], completions := [], ticket := 0, held := false }
        sync     :=
          { state := .idle, leavePending := false, position := ⟨0, none, 0, 0⟩, listenTimer := none, evidenceHeard := false
            lowerHeard := false, wipePending := none, syncRequest := false, donor := none, offer := none
            offerTimer := none, segmentTimer := none }
        peers    :=
          { entries := tab fun _ => ⟨.absent, 0, 0, 0, none, ⟨0, none, 0, 0⟩, .unknown, false, none⟩
            presenceTimer := none, presencePending := false }
        bus      :=
          { inStep := false, recessiveRun := 0, current := .idle, spoilStreak := 0, rejectStreak := 0, badTail := false
            slotDriven := false, due := none }
        selector := { winStreak := 0, sitOut := false }
        port     :=
          { starting := true, phase := if scsLow then .ignoring else .idle, result := [], priorTruncated := false
            events := [], lost := 0, eventEnable := false, completionEnable := false
            stored := ⟨10, 3, 3, 8, .drop, 4, 3, true⟩, inEffect := ⟨10, 3, 3, 8, .drop, 4, 3, true⟩ }
        clock    := s.clock
        pending  := s.pending } ∧
    (s.port.starting = true →
      exec .startUpClearComplete s = .next
        { s with
          table := { s.table with records := tab fun _ => ⟨⟨0, 0, 0, 0⟩, 0, none, none⟩ }
          port  := { s.port with starting := false } })

/-- The host port's tests before a command's own (R169): while the start-up clear runs every command but STATUS is answered
NOT_READY, its result bytes reading 0x00, with no effect; then a command byte that names no command is answered BAD_COMMAND. -/
def Obligations.HostPortTestsBeforeTheCommand : Prop :=
  (∀ (c : Instr) (code : Byte) (operands : List Byte) (s : State),
    encodeHostPort c = some (code :: operands) → code ≠ 0x01 → s.port.phase = .command → s.port.starting = true →
      exec c s = .next (s.replied 7 (List.replicate (resultLength code) 0))) ∧
  (∀ (code : Byte) (s : State), s.hostReady →
    code ∉ ([0x01, 0x02, 0x03, 0x04, 0x10, 0x11, 0x12, 0x13, 0x14, 0x15, 0x16, 0x17, 0x20, 0x21, 0x22, 0x30, 0x31, 0x32] :
      List Byte) →
    exec (.badCommand code) s = .next (s.replied 1 []))

/-- The edges of SCS#: a falling edge begins a transaction; a rise before the taking point truncates it and sets the
prior-truncated flag if a bit was sampled; a rise after it drops the result buffer; after a reset with SCS# low the rise only
ends the ignoring. After the taking point SDO gives the result bytes in order and 0x00 past them, and it is three-state outside
that part (R165, R166, R167, R183). Outside the part of a transaction in which a command is read a host command changes nothing:
that such a command of the queue is passed over is the model's reading (log 7); that the levels read before the command come with the
falling edge is its choice (log 19). -/
def Obligations.TransactionsFrameTheCommands : Prop :=
  (∀ (c : Instr) (bytes : List Byte) (s : State),
    encodeHostPort c = some bytes → s.port.phase ≠ .command → exec c s = .next s) ∧
  (∀ (bits : List Bool) (line : Levels) (s : State),
    (s.port.phase = .idle →
      exec (.transactionStart line) s = .next
        { s with bus := (s.bus.follow s.ear line).getD s.bus, port := { s.port with phase := .command } }) ∧
    (s.port.phase = .command → bits = [] →
      exec (.transactionTruncated bits) s = .next { s with port := { s.port with phase := .idle } }) ∧
    (s.port.phase = .command → bits ≠ [] →
      (bits.length < 8 ∨ bits.length < 8 * (1 + operandCount (byteOf (numberOf (bits.take 8))))) →
      exec (.transactionTruncated bits) s = .next { s with port := { s.port with phase := .idle, priorTruncated := true } }) ∧
    (s.port.phase = .result →
      exec .transactionEnd s = .next { s with port := { s.port with phase := .idle, result := [] } }) ∧
    (s.port.phase = .ignoring →
      exec .transactionEnd s = .next { s with port := { s.port with phase := .idle } } ∧
      exec (.transactionTruncated bits) s = .next { s with port := { s.port with phase := .idle } })) ∧
  (∀ (k : Nat) (s : State),
    (s.port.phase ≠ .result → s.sdoByte k = none) ∧
    (s.port.phase = .result →
      (∀ h : k < s.port.result.length, s.sdoByte k = some s.port.result[k]) ∧
      (s.port.result.length ≤ k → s.sdoByte k = some 0)))

/-! ### Host: session -/

/-- STATUS answers OK with the 29 bytes of R171, in every station state and while the start-up clear runs, and changes nothing
else. -/
def Obligations.StatusReturnsAllFields : Prop :=
  ∀ s : State, s.port.phase = .command →
    ∃ b : Vector Byte 29,
      exec .status s = .next (s.replied 0 b.toList) ∧
      (s.sync.state.mode, b[0]) ∈
        ([(.idle, 0), (.listen, 1), (.syncing, 2), (.synced, 3), (.stranded, 4)] : List (Mode × Byte)) ∧
      b[1].getMsbD 0 = s.port.starting ∧ b[1].getMsbD 1 = s.sync.leavePending ∧ b[1].getMsbD 2 = s.update.held ∧
      b[1].getMsbD 3 = s.sync.wipePending.isSome ∧ b[1].extractLsb' 0 4 = 0 ∧
      b[2].toNat = s.straps.number.val ∧
      b[3] ++ b[4] = s.sync.position.generation ∧
      b[5] = (match s.sync.position.origin with | some o => BitVec.ofNat 8 o.val | none => 0xFF) ∧
      b[6] ++ b[7] ++ b[8] ++ b[9] = s.sync.position.count ∧
      b[10] ++ b[11] ++ b[12] ++ b[13] = s.sync.position.digest ∧
      (∀ k : Fin 8, b[14].getMsbD k = s.table.covered[k.val] ∧ b[15].getMsbD k = s.table.covered[8 + k.val]) ∧
      b[16] = BitVec.ofNat 8 s.update.outbound.length ∧ b[17] = BitVec.ofNat 8 s.update.completions.length ∧
      b[18] = BitVec.ofNat 8 s.port.events.length ∧ b[19] = BitVec.ofNat 8 s.port.lost ∧
      [b[20], b[21], b[22], b[23]] =
        (match s.sync.state with
         | .syncing .requesting k a => [1, 0xFF, BitVec.ofNat 8 k.val, BitVec.ofNat 8 a]
         | .syncing (.receiving d) k a => [2, BitVec.ofNat 8 d.val, BitVec.ofNat 8 k.val, BitVec.ofNat 8 a]
         | _ => [0, 0xFF, 0, 0]) ∧
      [b[24], b[25], b[26]] =
        (match s.sync.donor with
         | some d => [BitVec.ofNat 8 d.joiner.val, BitVec.ofNat 8 d.next.val, BitVec.ofNat 8 d.attempts]
         | none => [0xFF, 0, 0]) ∧
      b[27] = (match s.sync.offer with | some o => BitVec.ofNat 8 o.joiner.val | none => 0xFF) ∧
      b[28].getMsbD 0 = s.port.eventEnable ∧ b[28].getMsbD 1 = s.port.completionEnable ∧ b[28].extractLsb' 0 6 = 0

/-- CONFIGURE is refused with STATE outside IDLE or with leave-pending set; else the first operand out of range gives BAD_PARAM
with its ordinal; else all eight are stored, the set in effect left as it stands (R172, R199). -/
def Obligations.ConfigureTestsInOrderAndStoresAll : Prop :=
  ∀ (o : ConfigOperands) (s : State), s.hostReady →
    (s.sync.state ≠ .idle ∨ s.sync.leavePending = true → exec (.configure o) s = .next (s.replied 3 [0])) ∧
    (s.sync.state = .idle → s.sync.leavePending = false →
      (∀ k : Nat, ¬ ConfigOperands.inRangeAt o k → (∀ j < k, ConfigOperands.inRangeAt o j) →
        exec (.configure o) s = .next (s.replied 2 [BitVec.ofNat 8 k])) ∧
      ((∀ k, ConfigOperands.inRangeAt o k) →
        exec (.configure o) s = .next
          (State.replied
            { s with
              port :=
                { s.port with
                  stored :=
                    { presenceInterval := o.presenceInterval.toNat
                      lockN            := o.lockN.toNat
                      unlockN          := o.unlockN.toNat
                      retryLimit       := o.retryLimit.toNat
                      failPolicy       := if o.failPolicy.toNat = 0 then .drop else .hold
                      yieldN           := o.yieldN.toNat
                      rejectBudget     := o.rejectBudget.toNat
                      donorEnable      := o.donorEnable.toNat == 1 } } }
            0 [0])))

/-- JOIN in IDLE begins a session with every effect of R75; in every other state, leave-pending included, it is refused with
STATE; during the start-up clear it is answered NOT_READY. -/
def Obligations.JoinBeginsSession : Prop :=
  ∀ s : State, s.port.phase = .command →
    (s.port.starting = true → exec .join s = .next (s.replied 7 [])) ∧
    (s.port.starting = false → s.sync.state ≠ .idle → exec .join s = .next (s.replied 3 [])) ∧
    (s.port.starting = false → s.sync.state = .idle →
      exec .join s = .next
        ((State.post
          { s with
            table    :=
              { s.table with
                records := tab fun _ => ⟨⟨0, 0, 0, 0⟩, 0, none, none⟩
                covered := tab fun _ => false }
            sync     :=
              { state := .listen, leavePending := false, position := ⟨0, none, 0, 0⟩
                listenTimer := some (3 * s.port.stored.presenceInterval), evidenceHeard := false, lowerHeard := false
                wipePending := none, syncRequest := false, donor := none, offer := none, offerTimer := none
                segmentTimer := none }
            peers    :=
              { entries := tab fun _ => ⟨.absent, 0, 0, 0, none, ⟨0, none, 0, 0⟩, .unknown, false, none⟩
                presenceTimer := some s.port.stored.presenceInterval, presencePending := true }
            bus      :=
              { s.bus with
                spoilStreak := 0, rejectStreak := 0
                current := match s.bus.current with | .receiving r _ _ => .receiving r false false | c => c }
            selector := { winStreak := 0, sitOut := false }
            port     := { s.port with inEffect := s.port.stored } }
          (.stateChanged .listen .joined)).replied 0 []))

/-- LEAVE is refused with STATE in IDLE and with BUSY while leave-pending is set; else it takes the station to IDLE with every
effect of R92, or, with an own frame in flight, sets leave-pending (R91). A frame of another station on the line has no close then
(R27, R47); that the station also stops driving inside the slot of a frame it rejects is the model's reading (log 30, R34), and that
a frame is in flight until the LOST_ARBITRATION of its mismatch is taken is its choice (log 31). -/
def Obligations.LeaveActsByState : Prop :=
  ∀ s : State, s.hostReady →
    (s.sync.state = .idle → exec .leave s = .next (s.replied 3 [])) ∧
    (s.sync.state ≠ .idle → s.sync.leavePending = true → exec .leave s = .next (s.replied 5 [])) ∧
    (s.sync.state ≠ .idle → s.sync.leavePending = false → s.ownInFlight = false →
      exec .leave s = .next (s.nowIdle.replied 0 [])) ∧
    (s.sync.state ≠ .idle → s.sync.leavePending = false → s.ownInFlight = true →
      exec .leave s = .next (State.replied { s with sync := { s.sync with leavePending := true } } 0 []))

/-- With leave-pending set, the close of the own frame is first processed in full, as without it, and then the station goes IDLE
(R93). -/
def Obligations.LeaveWaitsForTheOwnClose : Prop :=
  ∀ (s u : State) (line : Levels) (o : OwnFrame) (c : Instr),
    s.sendsFrame line o u → s.sync.leavePending = true →
    (c = if o.spoil.isSome ∨ o.rejected then .discardedClose line else closeOf o.frame.kind line) →
    ∃ t : State, exec c { s with sync := { s.sync with leavePending := false } } = .next t ∧ exec c s = .next t.nowIdle

/-- SET_INTERRUPTS refuses an operand above 1 by its ordinal, neither enable changing; else it sets both, and INT# follows the
new enables (R182). -/
def Obligations.SetInterruptsSetsBothEnables : Prop :=
  ∀ (e c : Byte) (s : State), s.hostReady →
    (1 < e.toNat → exec (.setInterrupts e c) s = .next (s.replied 2 [1])) ∧
    (e.toNat ≤ 1 → 1 < c.toNat → exec (.setInterrupts e c) s = .next (s.replied 2 [2])) ∧
    (e.toNat ≤ 1 → c.toNat ≤ 1 →
      ∃ t : State, exec (.setInterrupts e c) s = .next t ∧
        t = State.replied { s with port := { s.port with eventEnable := e == 1, completionEnable := c == 1 } } 0 [] ∧
        (t.intLow = true ↔ e = 1 ∧ s.port.events ≠ [] ∨ c = 1 ∧ s.update.completions ≠ []))

/-! ### Host: records, queues and peers -/

/-- READ_RECORD answers OK with the record's 20 bytes and its standing, and changes nothing else (R4, R174). -/
def Obligations.ReadRecordReturnsRecordAndStanding : Prop :=
  ∀ (i : Index) (s : State), s.hostReady →
    ∃ b : Vector Byte 21,
      exec (.readRecord i) s = .next (s.replied 0 b.toList) ∧
      b[0] ++ b[1] ++ b[2] ++ b[3] = s.table.records[i].value.w0 ∧
      b[4] ++ b[5] ++ b[6] ++ b[7] = s.table.records[i].value.w1 ∧
      b[8] ++ b[9] ++ b[10] ++ b[11] = s.table.records[i].value.w2 ∧
      b[12] ++ b[13] ++ b[14] ++ b[15] = s.table.records[i].value.w3 ∧
      b[16] ++ b[17] = s.table.records[i].version ∧
      b[18] = (match s.table.records[i].claimant with | some x => BitVec.ofNat 8 x.val | none => 0xFF) ∧
      b[19] = (match s.table.records[i].writer with | some x => BitVec.ofNat 8 x.val | none => 0xFF) ∧
      b[20] =
        (match s.sync.state with
         | .synced     => 1
         | .syncing .. => if s.table.covered[i.val / 16]'(by omega) then 2 else 3
         | _           => 3)

/-- WATCH sets the record's watch flag. UNWATCH clears it and the change-pending flag and removes the record's RECORD_CHANGED,
the others keeping their order and the lost-event count standing (R181, R191). -/
def Obligations.WatchAndUnwatch : Prop :=
  ∀ (i : Index) (s : State), s.hostReady →
    exec (.watch i) s = .next (State.replied { s with table := { s.table with watch := put s.table.watch i true } } 0 []) ∧
    exec (.unwatch i) s = .next
      (State.replied
        { s with
          table :=
            { s.table with
              watch         := put s.table.watch i false
              changePending := put s.table.changePending i false }
          port  :=
            { s.port with
              events := s.port.events.filter fun e => match e with | .recordChanged j _ => j != i | _ => true } }
        0 [])

/-- TAKE_COMPLETION answers EMPTY on an empty queue; else it removes the oldest record and returns it in 11 bytes (R178). -/
def Obligations.TakeCompletionRemovesOldest : Prop :=
  ∀ s : State, s.hostReady →
    (s.update.completions = [] → exec .takeCompletion s = .next (s.replied 6 (List.replicate 11 0))) ∧
    ∀ (c : Completion) (rest : List Completion), s.update.completions = c :: rest →
      ∃ b : Vector Byte 11,
        exec .takeCompletion s = .next
          (State.replied { s with update := { s.update with completions := rest } } 0 b.toList) ∧
        b[0] = c.ticket ∧
        b[1] = (match c.op with | .write _ => 1 | .cswap _ _ => 2 | .claim => 3 | .release => 4) ∧
        b[2].toNat = c.index.val ∧
        (c.result, b[3]) ∈
          ([(.applied, 1), (.unchanged, 2), (.refusedClaimed, 3), (.refusedVersion, 4), (.refusedNotClaimant, 5),
            (.droppedRetries, 6), (.discarded, 7), (.cancelledResync, 8), (.cancelledWipe, 9), (.cancelledLeave, 10)] :
            List (Result × Byte)) ∧
        b[4].getMsbD 0 = c.versionAfter.isSome ∧ b[4].getMsbD 1 = c.countAfter.isSome ∧ b[4].extractLsb' 0 6 = 0 ∧
        b[5] ++ b[6] = c.versionAfter.getD 0 ∧
        b[7] ++ b[8] ++ b[9] ++ b[10] = c.countAfter.getD 0

/-- TAKE_EVENT on an empty queue answers EMPTY and clears the lost-event count; else it removes the oldest event and returns it
in four bytes, and a RECORD_CHANGED clears its record's change-pending flag (R179, R187). -/
def Obligations.TakeEventRemovesOldest : Prop :=
  ∀ s : State, s.hostReady →
    (s.port.events = [] →
      exec .takeEvent s = .next (State.replied { s with port := { s.port with lost := 0 } } 6 [0, 0, 0, 0])) ∧
    ∀ (e : Event) (rest : List Event), s.port.events = e :: rest →
      ∃ b1 b2 b3 : Byte,
        exec .takeEvent s = .next
          (State.replied
            { s with
              port  := { s.port with events := rest }
              table :=
                { s.table with
                  changePending :=
                    match e with
                    | .recordChanged i _ => put s.table.changePending i false
                    | _ => s.table.changePending } }
            0
            [match e with
             | .stateChanged _ _ => 1 | .peerUp _ => 2 | .peerDown _ => 3 | .peerEvicted _ _ => 4 | .selfEvicted _ => 5
             | .recordChanged _ _ => 6 | .queueHeld _ => 7 | .wiped _ _ => 8 | .transferRestart _ => 9
             | .donorEnded _ _ => 10 | .numberClash => 11,
             b1, b2, b3]) ∧
        (match e with
         | .stateChanged m c =>
           (m, b1) ∈ ([(.idle, 0), (.listen, 1), (.syncing, 2), (.synced, 3), (.stranded, 4)] : List (Mode × Byte)) ∧
           (c, b2) ∈
             ([(.founded, 1), (.transferDone, 2), (.wiped, 3), (.behind, 4), (.missedFrame, 5), (.attemptsExhausted, 6),
               (.syncedPeerHeard, 7), (.joined, 8), (.left, 9)] : List (Cause × Byte)) ∧ b3 = 0
         | .peerUp x | .peerDown x | .selfEvicted x => b1.toNat = x.val ∧ b2 = 0 ∧ b3 = 0
         | .peerEvicted x y => b1.toNat = x.val ∧ b2.toNat = y.val ∧ b3 = 0
         | .recordChanged i w => b1.toNat = i.val ∧ b2.toNat = w.val ∧ b3 = 0
         | .queueHeld ticket => b1 = ticket ∧ b2 = 0 ∧ b3 = 0
         | .wiped x g => b1.toNat = x.val ∧ b2 ++ b3 = g
         | .transferRestart c =>
           (c, b1) ∈ ([(.countMismatch, 1), (.timeout, 2), (.donorLost, 3)] : List (RestartCause × Byte)) ∧ b2 = 0 ∧ b3 = 0
         | .donorEnded j r =>
           b1.toNat = j.val ∧
           (r, b2) ∈
             ([(.done, 1), (.failed, 2), (.joinerLost, 3), (.reRequested, 4), (.wiped, 5), (.leftSynced, 6)] :
               List (EndReason × Byte)) ∧ b3 = 0
         | .numberClash => b1 = 0 ∧ b2 = 0 ∧ b3 = 0)

/-- READ_PEER refuses a number above 15, answers SELF for the station's own number, and else the entry's 18 bytes; it changes
nothing else (R180). -/
def Obligations.ReadPeerReturnsEntry : Prop :=
  ∀ (n : Byte) (s : State), s.hostReady →
    (15 < n.toNat → exec (.readPeer n) s = .next (s.replied 2 (1 :: List.replicate 17 0))) ∧
    (n.toNat = s.straps.number.val →
      exec (.readPeer n) s = .next (s.replied 0 [4, 0, 0, 0, 0, 0, 0, 0xFF, 0, 0, 0, 0, 0, 0, 0, 0, 0, 0])) ∧
    ∀ x : Station, n.toNat = x.val → x ≠ s.straps.number →
      ∃ b : Vector Byte 18,
        exec (.readPeer n) s = .next (s.replied 0 b.toList) ∧
        (s.peers.entries[x].state, b[0]) ∈
          ([(.absent, 0), (.arriving, 1), (.present, 2), (.fading, 3)] : List (PeerState × Byte)) ∧
        b[1] = BitVec.ofNat 8 s.peers.entries[x].hits ∧ b[2] = BitVec.ofNat 8 s.peers.entries[x].misses ∧
        b[3] = BitVec.ofNat 8 s.peers.entries[x].advertisedP ∧
        (s.peers.entries[x].reported, b[4]) ∈
          ([(none, 0), (some .listen, 1), (some .syncing, 2), (some .synced, 3), (some .stranded, 4)] :
            List (Option Reported × Byte)) ∧
        b[5] ++ b[6] = s.peers.entries[x].lastPosition.generation ∧
        b[7] = (match s.peers.entries[x].lastPosition.origin with | some o => BitVec.ofNat 8 o.val | none => 0xFF) ∧
        b[8] ++ b[9] ++ b[10] ++ b[11] = s.peers.entries[x].lastPosition.count ∧
        b[12] ++ b[13] ++ b[14] ++ b[15] = s.peers.entries[x].lastPosition.digest ∧
        (s.peers.entries[x].relation, b[16]) ∈
          ([(.unknown, 0), (.consistent, 1), (.lagging, 2)] : List (Relation × Byte)) ∧
        b[17] = (if s.peers.entries[x].evictPending then 1 else 0)

/-! ### Host: changes -/

/-- WRITE, CSWAP, CLAIM and RELEASE are tested in order: STATE unless SYNCED with leave-pending clear, then NO_CREDIT by the two
limits; an accepted change takes the ticket counter's value, joins the tail with attempts 0, raises the counter modulo 256,
and returns its ticket (R50, R51). -/
def Obligations.ChangeCommandsTestThenQueue : Prop :=
  ∀ (c : Instr) (op : Op) (i : Index) (s : State), s.hostReady →
    ((∃ v, c = .write i v ∧ op = .write v) ∨ (∃ e v, c = .cswap i e v ∧ op = .cswap e v) ∨
      (c = .claim i ∧ op = .claim) ∨ (c = .release i ∧ op = .release)) →
    (s.sync.state ≠ .synced ∨ s.sync.leavePending = true → exec c s = .next (s.replied 3 [0])) ∧
    (s.sync.state = .synced → s.sync.leavePending = false →
      (16 ≤ s.update.outbound.length ∨ 32 ≤ s.update.outbound.length + s.update.completions.length →
        exec c s = .next (s.replied 4 [0])) ∧
      (s.update.outbound.length < 16 → s.update.outbound.length + s.update.completions.length < 32 →
        exec c s = .next
          (State.replied
            { s with
              update :=
                { s.update with
                  outbound := s.update.outbound ++ [{ ticket := s.update.ticket, op := op, index := i, attempts := 0 }]
                  ticket   := s.update.ticket + 1 } }
            0 [s.update.ticket])))

/-- WIPE is refused with STATE unless SYNCED with leave-pending clear, then with BUSY while one is pending; else wipe pending is
set and nothing else changes (R176). Which generation the pending mark holds until the offer is left open here. -/
def Obligations.WipeCommandSetsWipePending : Prop :=
  ∀ s : State, s.hostReady →
    (s.sync.state ≠ .synced ∨ s.sync.leavePending = true → exec .wipe s = .next (s.replied 3 [])) ∧
    (s.sync.state = .synced → s.sync.leavePending = false → s.sync.wipePending ≠ none →
      exec .wipe s = .next (s.replied 5 [])) ∧
    (s.sync.state = .synced → s.sync.leavePending = false → s.sync.wipePending = none →
      ∃ g : Half,
        exec .wipe s = .next (State.replied { s with sync := { s.sync with wipePending := some g } } 0 []))

/-- RESUME and DISCARD_HEAD are refused with STATE while HELD is clear. On a HELD queue RESUME sets the head's attempts to 0,
and DISCARD_HEAD removes the head with completion DISCARDED; both clear HELD (R61, R62, R177). -/
def Obligations.ResumeAndDiscardHeadActOnHeldQueue : Prop :=
  ∀ s : State, s.hostReady →
    (s.update.held = false → exec .resume s = .next (s.replied 3 []) ∧ exec .discardHead s = .next (s.replied 3 [])) ∧
    ∀ (e : Entry) (rest : List Entry), s.update.held = true → s.update.outbound = e :: rest →
      exec .resume s = .next
        (State.replied
          { s with update := { s.update with outbound := { e with attempts := 0 } :: rest, held := false } } 0 []) ∧
      exec .discardHead s = .next
        (State.replied
          { s with
            update :=
              { s.update with
                outbound    := rest
                completions := s.update.completions ++ [⟨e.ticket, e.op, e.index, .discarded, none, none⟩]
                held        := false } }
          0 [])

/-! ### The line and the selector -/

/-- At an offer point: nothing is offered in IDLE; a set sit-out flag is cleared and nothing is offered; else the first pending frame
in the order WIPE, EVICT, OFFER, SYNC_REQUEST, PRESENCE, head, SNAPSHOT is filled in by its block's rule, taken as the own frame and
driven from its start bit (R89, R105, R123, R133, R146, R152, R155). What the pending mark of a WIPE holds is the model's choice
(log 16), as is the origin 0 of a position without a lineage, which no run offers (log 17). -/
def Obligations.OfferPointOffersFirstPendingFrame : Prop :=
  ∀ (s u : State) (line : Levels), s.heard line = some (.offerPoint, u) →
    let position : Carried :=
      ⟨u.sync.position.generation, u.sync.position.origin.getD 0, u.sync.position.count, u.sync.position.digest⟩
    let offers : List (Option Frame) :=
      [ u.sync.wipePending.map fun _ => .wipe (u.sync.position.generation + 1),
        ((List.finRange 16).find? fun x => u.peers.entries[x].evictPending).map .evict,
        u.sync.offer.map fun o => .offer o.joiner o.start,
        (match u.sync.state with
         | .syncing _ next _ => if u.sync.syncRequest then some (.syncRequest next) else none
         | _ => none),
        (if u.peers.presencePending then
          some
            (.presence
              (match u.sync.state with
               | .idle => 0 | .listen => 1 | .syncing .. => 2 | .synced => 3 | .stranded => 4)
              (BitVec.ofNat 8 u.port.inEffect.presenceInterval)
              (if u.sync.state = .synced then position else ⟨0, 0, 0, 0⟩))
        else none),
        (match u.update.outbound with
         | e :: _ => if u.sync.state = .synced ∧ u.update.held = false then some (.update e.ticket e.op e.index) else none
         | [] => none),
        u.sync.donor.map fun d =>
          .snapshot d.joiner d.next position
            (tab fun r => u.table.records[16 * d.next.val + r.val]'(by omega)) ]
    (u.sync.state = .idle → exec (.offerPoint line) s = .next u) ∧
    (u.sync.state ≠ .idle → u.selector.sitOut = true →
      exec (.offerPoint line) s = .next { u with selector := { u.selector with sitOut := false } }) ∧
    (u.sync.state ≠ .idle → u.selector.sitOut = false →
      exec (.offerPoint line) s = .next
        (match offers.findSome? id with
         | none => u
         | some f =>
           { u with
             bus  := { u.bus with current := .own { frame := f, position := 0, spoil := none, rejected := false } }
             sync := { u.sync with wipePending := match f with | .wipe g => some g | _ => u.sync.wipePending } }))

/-- The own frame is driven and read back bit by bit. A mismatch at the start bit or a key bit loses arbitration: the station becomes
a receiver of the winning frame with the bits read so far, or, where the start bit read recessive, of none; the win streak becomes 0,
and a station with leave-pending set goes IDLE (R149). A later mismatch through the end delimiter spoils the frame: the sender then
drives recessive but for fill bits up to its own end delimiter, and both slot bits dominant (R141, R150). That a mismatch
at the bit inserted after the last key bit spoils the frame, and does not lose arbitration, is the model's reading (log 29). Whether a
mismatch bit that read recessive counts towards a fill bit is left open here (log 25). -/
def Obligations.ReadbackMismatchLosesOrSpoils : Prop :=
  (∀ (s u : State) (line : Levels) (o : OwnFrame), u.bus.current = .own o →
    let sent := sentBits u.straps.number o.frame
    let lost : State :=
      { u with
        bus      :=
          if o.position = 0 then { u.bus with current := .idle, recessiveRun := min 22 (u.bus.recessiveRun + 1) }
          else
            { u.bus with
              current :=
                .receiving (Reader.start.hearAll ((sent.take o.position).drop 1 ++ [!sent.getD o.position true])) true false }
        selector := { u.selector with winStreak := 0 } }
    (s.heard line = some (.lostArbitration, u) → u.sync.leavePending = false → exec (.lostArbitration line) s = .next lost) ∧
    (s.heard line = some (.lostArbitration, u) → u.sync.leavePending = true →
      exec (.lostArbitration line) s = .next lost.nowIdle) ∧
    (s.heard line = some (.spoiled, u) →
      ∃ count : Nat, count ≤ 1 ∧
        exec (.spoiledFrame line) s = .next
          { u with bus := { u.bus with current := .own { o with position := o.position + 1, spoil := some count } } })) ∧
  (∀ (e : Ear) (bus : BusInterface) (o : OwnFrame) (b : Bool), bus.current = .own o → bus.due = none →
    let sent := sentBits e.number o.frame
    (∀ h : o.position < sent.length, o.spoil = none →
      (b = sent[o.position] →
        bus.hear e b = { bus with recessiveRun := 0, current := .own { o with position := o.position + 1 } }) ∧
      (b ≠ sent[o.position] → o.position ≤ (stuff Run.start (keyBits e.number o.frame.kind)).length →
        bus.hear e b = { bus with due := some .lostArbitration }) ∧
      (b ≠ sent[o.position] → (stuff Run.start (keyBits e.number o.frame.kind)).length < o.position →
        bus.hear e b = { bus with due := some .spoiled })) ∧
    (∀ count, o.position < sent.length → o.spoil = some count →
      bus.hear e b =
        { bus with
          current :=
            .own
              { o with
                position := o.position + 1
                spoil    := some (if count = 10 then 0 else if b then count + 1 else 0) } }) ∧
    (sent.length ≤ o.position →
      bus.hear e b =
        { bus with
          current := .own { o with position := o.position + 1, rejected := o.rejected || !b }
          due     := if o.position = sent.length then none else some .close })) ∧
  (∀ (s : State) (o : OwnFrame), s.bus.current = .own o →
    let sent := sentBits s.straps.number o.frame
    (o.spoil = none → s.bus.due = none → s.mbtx = sent.getD o.position true) ∧
    (o.spoil = none → s.bus.due = some .lostArbitration → s.mbtx = true) ∧
    (o.spoil = none → s.bus.due = some .spoiled → s.mbtx = decide (o.position + 1 < sent.length)) ∧
    (∀ count, o.spoil = some count →
      (o.position + 3 < sent.length → s.mbtx = decide (count ≠ 10)) ∧
      (sent.length ≤ o.position + 3 → o.position < sent.length → s.mbtx = true) ∧
      (sent.length ≤ o.position → o.position < sent.length + 2 → s.mbtx = false)))

/-- From the start bit through the last CRC bit a sender never drives seven equal bits in a row, inserted bits included (R142). Where a spoiled
sender drives its fill bits the line never carries eleven recessive bits in a row, whatever the others drive (R150). -/
def Obligations.InsertedAndFillBitsBreakRuns : Prop :=
  (∀ (fields : Levels) (level : Bool), ¬ List.replicate 7 level <:+: false :: stuff Run.start fields) ∧
  (∀ others : Levels, (fillBits 0 others).length = others.length ∧
    ¬ List.replicate 11 true <:+: List.zipWith (· && ·) (fillBits 0 others) others)

/-- Between frames a station in step counts recessive bits: from the eleventh on each is an offer point, and the first dominant bit
after one is a start bit. A dominant bit before, after a bad frame, and eleven recessive bits before the placed end delimiter are a
loss of the place: the station is out of step, its win streak 0, and a SYNCED one leaves SYNCED with MISSED_FRAME and every effect of
R88. Out of step it comes back by a start bit after eleven recessive bits, or by 22 of them, an offer point (R145, R146, R147). The
recessive run a loss leaves is the model's (log 9) and is left open here. That a station which joins between the regaining start bit
and its REGAIN_STEP has a close of that frame is the model's choice (log 31). -/
def Obligations.PlaceIsLostAndStepRegained : Prop :=
  (∀ (s u : State) (line : Levels),
    (∀ how, s.heard line = some (.lostPlace how, u) →
      ∃ run : Nat,
        let lost : State :=
          { u with
            bus      := { u.bus with inStep := false, recessiveRun := run, current := .idle, badTail := false }
            selector := { u.selector with winStreak := 0 } }
        (u.sync.state ≠ .synced → exec (.lostPlace line) s = .next lost) ∧
        (u.sync.state = .synced → exec (.lostPlace line) s = .next (lost.outOfSynced .missedFrame))) ∧
    (s.heard line = some (.regain .startBit, u) →
      exec (.regainStep line) s = .next
        { u with
          bus :=
            { u.bus with
              inStep := true, recessiveRun := 0, current := .receiving Reader.start (u.sync.state ≠ .idle) false } }) ∧
    (s.heard line = some (.regain .longRun, u) →
      exec (.regainStep line) s = .next { u with bus := { u.bus with inStep := true, due := some .offerPoint } })) ∧
  (∀ (e : Ear) (bus : BusInterface) (b : Bool), bus.due = none →
    let longer := min 22 (bus.recessiveRun + 1)
    (bus.current = .idle → bus.inStep = true →
      (b = true →
        bus.hear e b =
          { bus with
            recessiveRun := longer
            badTail      := bus.badTail && decide (longer < 11)
            due          := if 11 ≤ longer then some .offerPoint else none }) ∧
      (b = false → 11 ≤ bus.recessiveRun →
        bus.hear e b =
          { bus with recessiveRun := 0, badTail := false, current := .receiving Reader.start e.takesPart false }) ∧
      (b = false → bus.recessiveRun < 11 → bus.badTail = true →
        bus.hear e b = { bus with due := some (.lostPlace .dominantAfterEnd) }) ∧
      (b = false → bus.recessiveRun < 11 → bus.badTail = false → bus.hear e b = { bus with recessiveRun := 0 })) ∧
    (bus.current = .idle → bus.inStep = false →
      (b = true →
        bus.hear e b =
          { bus with recessiveRun := longer, due := if longer = 22 then some (.regain .longRun) else none }) ∧
      (b = false → 11 ≤ bus.recessiveRun → bus.hear e b = { bus with due := some (.regain .startBit) }) ∧
      (b = false → bus.recessiveRun < 11 → bus.hear e b = { bus with recessiveRun := 0 })) ∧
    (∀ r closes rejecting, bus.current = .receiving r closes rejecting → (r.hear b).tail = [] →
      ((r.hear b).recessive < 11 → bus.hear e b = { bus with current := .receiving (r.hear b) closes rejecting }) ∧
      (11 ≤ (r.hear b).recessive →
        bus.hear e b =
          { bus with
            current := .receiving (r.hear b) closes rejecting, due := some (.lostPlace .elevenRecessive) })))

/-! ### Closes: bad and discarded frames -/

/-- At the end delimiter a SYNCED station decides to reject a bad frame while its reject streak is below the budget, and then drives
both slot bits dominant; at the close its streak is one higher. A SYNCED station whose streak stands at the budget leaves SYNCED with
MISSED_FRAME at the close; in any other state the station drives nothing and uses nothing of the frame (R34, R36, R37, R141). The
model's own readings: every bad frame closes at its placed end, also one whose place is lost after it (R27 against R145, log 21); the
streak rises at the close, and `slotDriven` records the drive (R35, log 13); and a SYNCED station with budget left that did not reject
the frame, because it was not SYNCED at the end delimiter, only ends it (inferred from R34 and R36). -/
def Obligations.BadFrameIsRejectedOrGivenUp : Prop :=
  (∀ (s u : State) (line : Levels) (r : Reader) (rejecting : Bool), s.hearsFrame line r rejecting u → r.bad = true →
    let ended : State :=
      { u with
        bus      := { u.bus with current := .idle, recessiveRun := 0, badTail := true, slotDriven := false }
        selector := { u.selector with winStreak := 0 } }
    (rejecting = true →
      exec (.badFrameClose line) s = .next
        { ended with bus := { ended.bus with slotDriven := true, rejectStreak := u.bus.rejectStreak + 1 } }) ∧
    (rejecting = false → u.sync.state = .synced → u.bus.rejectStreak = u.port.inEffect.rejectBudget →
      exec (.badFrameClose line) s = .next (ended.outOfSynced .missedFrame)) ∧
    (rejecting = false → u.sync.state ≠ .synced ∨ u.bus.rejectStreak < u.port.inEffect.rejectBudget →
      exec (.badFrameClose line) s = .next ended)) ∧
  (∀ (e : Ear) (bus : BusInterface) (r : Reader) (closes rejecting b : Bool),
    bus.current = .receiving r closes rejecting → (r.hear b).tail ≠ [] →
    let read (rejecting : Bool) : BusInterface := { bus with current := .receiving (r.hear b) closes rejecting }
    ((r.hear b).tail.length = 3 →
      (closes = true ∧ e.synced = true ∧ (r.hear b).bad = true ∧ bus.rejectStreak < e.budget → bus.hear e b = read true) ∧
      (closes = false ∨ e.synced = false ∨ (r.hear b).bad = false ∨ e.budget ≤ bus.rejectStreak →
        bus.hear e b = read false)) ∧
    ((r.hear b).tail.length = 5 → bus.hear e b = { read rejecting with due := some .close }) ∧
    ((r.hear b).tail.length ≠ 3 → (r.hear b).tail.length ≠ 5 → bus.hear e b = read rejecting)) ∧
  (∀ (s : State) (r : Reader) (closes rejecting : Bool), s.bus.current = .receiving r closes rejecting →
    (s.mbtx = false ↔ rejecting = true ∧ (r.tail.length = 3 ∨ r.tail.length = 4)))

/-- A DISCARDED frame changes nothing but the bus interface's and the selector's own fields, at a receiver, and at the sender of
a PRESENCE, WIPE, EVICT, SYNC_REQUEST or OFFER, whose source stays pending, whether another station drove the slot or the own
readback spoiled the frame; a spoil raises the spoil streak, and on reaching 3 posts NUMBER_CLASH (R33, R38, R150, R151). -/
def Obligations.DiscardedFrameIsAppliedByNoBlock : Prop :=
  ∀ (s u : State) (line : Levels),
    (∀ r rejecting, s.hearsFrame line r rejecting u → r.discarded.isSome = true →
      exec (.discardedClose line) s = .next u.afterReceived) ∧
    (∀ o, s.sendsFrame line o u → u.sync.leavePending = false → o.spoil.isSome = true ∨ o.rejected = true →
      o.frame.kind ≠ .update → o.frame.kind ≠ .snapshot →
      exec (.discardedClose line) s = .next ((u.afterDiscarded o.frame o.spoil.isSome).spoilCounted o.spoil.isSome))

/-- The own DISCARDED UPDATE raises the head's attempts; on reaching RETRY_LIMIT the head is removed with DROPPED_RETRIES under
DROP, or stays with HELD set and QUEUE_HELD posted under HOLD. Whether another station drove the slot or the own readback
spoiled the frame makes no difference to the head; a spoil then raises the spoil streak, NUMBER_CLASH following QUEUE_HELD
(R57, R58, R59, R151). -/
def Obligations.DiscardedUpdateCountsAnAttempt : Prop :=
  ∀ (s u : State) (line : Levels) (o : OwnFrame) (ticket : Byte) (op : Op) (i : Index) (e : Entry) (rest : List Entry),
    s.sendsFrame line o u → u.sync.leavePending = false → o.frame = .update ticket op i →
    o.spoil.isSome = true ∨ o.rejected = true → u.update.outbound = e :: rest →
    let s₁ : State := u.afterDiscarded o.frame o.spoil.isSome
    let raised : Entry := { e with attempts := e.attempts + 1 }
    (e.attempts + 1 < u.port.inEffect.retryLimit →
      exec (.discardedClose line) s = .next
        (State.spoilCounted { s₁ with update := { u.update with outbound := raised :: rest } } o.spoil.isSome)) ∧
    (e.attempts + 1 = u.port.inEffect.retryLimit → u.port.inEffect.failPolicy = .drop →
      exec (.discardedClose line) s = .next
        (State.spoilCounted
          { s₁ with
            update :=
              { u.update with
                outbound    := rest
                completions := u.update.completions ++ [⟨e.ticket, e.op, e.index, .droppedRetries, none, none⟩] } }
          o.spoil.isSome)) ∧
    (e.attempts + 1 = u.port.inEffect.retryLimit → u.port.inEffect.failPolicy = .hold →
      exec (.discardedClose line) s = .next
        (State.spoilCounted
          (State.post { s₁ with update := { u.update with outbound := raised :: rest, held := true } } (.queueHeld e.ticket))
          o.spoil.isSome))

/-! ### Closes: UPDATE, EVICT, WIPE -/

/-- The four operations against the claimant and the version as they stand: the result and the record afterwards
(R6, R7, R8, R9). -/
def Obligations.EvaluationFollowsClaimAndVersion : Prop :=
  ∀ (r : Rec) (x : Station) (v : Value) (expected : Half),
    let applied (value : Value) (claimant : Option Station) : Result × Rec :=
      (.applied, { value := value, version := r.version + 1, claimant := claimant, writer := some x })
    ((r.claimant ≠ none ∧ r.claimant ≠ some x) →
      evaluate r x (.write v) = (.refusedClaimed, r) ∧ evaluate r x (.cswap expected v) = (.refusedClaimed, r) ∧
      evaluate r x .claim = (.refusedClaimed, r) ∧ evaluate r x .release = (.refusedNotClaimant, r)) ∧
    ((r.claimant = none ∨ r.claimant = some x) →
      evaluate r x (.write v) = applied v r.claimant ∧
      (r.version = expected → evaluate r x (.cswap expected v) = applied v r.claimant) ∧
      (r.version ≠ expected → evaluate r x (.cswap expected v) = (.refusedVersion, r))) ∧
    (r.claimant = none →
      evaluate r x .claim = applied r.value (some x) ∧ evaluate r x .release = (.refusedNotClaimant, r)) ∧
    (r.claimant = some x →
      evaluate r x .claim = (.unchanged, r) ∧ evaluate r x .release = applied r.value none)

/-- The close of a committed UPDATE. Where the station follows the record it evaluates the operation; SYNCED or SYNCING with a
lineage it counts and folds the frame; its own head leaves with its completion; another station's APPLIED change to a watched
record posts RECORD_CHANGED once (R5, R12, R14, R41, R56, R190). In LISTEN and STRANDED the frame is evidence only (R76). -/
def Obligations.UpdateCloseEvaluatesCountsAndSettles : Prop :=
  ∀ (s u : State) (line : Levels) (own : Bool) (x : Station) (ticket : Byte) (op : Op) (i : Index),
    s.takesClose line own x (.update ticket op i) u →
    let s₁ := u.afterClose own (.update ticket op i)
    let out := evaluate u.table.records[i] x op
    let counted := u.sync.position.after (BitVec.ofNat 8 x.val) 2 ticket (BitVec.ofNat 8 i.val)
    let changed : State :=
      { s₁ with
        table := { u.table with records := put u.table.records i out.2 }
        sync  := { u.sync with position := counted } }
    (u.sync.state = .listen ∨ u.sync.state = .stranded → (own = false →
      exec (.updateClose line) s = .next { s₁ with sync := { u.sync with evidenceHeard := true } })) ∧
    (∀ sub next attempts, u.sync.state = .syncing sub next attempts → u.table.covered[i.val / 16]'(by omega) = false →
      (own = false →
        exec (.updateClose line) s = .next
          { s₁ with
            sync := { u.sync with position := if u.sync.position.origin = none then u.sync.position else counted } })) ∧
    (u.sync.position.origin ≠ none →
      (u.sync.state = .synced ∨
        (∃ sub next attempts, u.sync.state = .syncing sub next attempts) ∧ u.table.covered[i.val / 16]'(by omega) = true) →
      (own = false →
        (out.1 ≠ .applied ∨ u.table.watch[i] = false ∨ u.table.changePending[i] = true →
          exec (.updateClose line) s = .next changed) ∧
        (out.1 = .applied → u.table.watch[i] = true → u.table.changePending[i] = false → u.port.events.length < 16 →
          exec (.updateClose line) s = .next
            { changed with
              table := { changed.table with changePending := put u.table.changePending i true }
              port  := { u.port with events := u.port.events ++ [.recordChanged i x] } }) ∧
        (out.1 = .applied → u.table.watch[i] = true → u.table.changePending[i] = false → u.port.events.length = 16 →
          exec (.updateClose line) s = .next
            { changed with port := { u.port with lost := min 255 (u.port.lost + 1) } })) ∧
      (∀ (e : Entry) (rest : List Entry), own = true → u.sync.state = .synced → u.update.outbound = e :: rest →
        exec (.updateClose line) s = .next
          { changed with
            update :=
              { u.update with
                outbound    := rest
                completions := u.update.completions ++
                  [{ ticket := e.ticket, op := e.op, index := e.index, result := out.1
                     versionAfter := if out.1 = .applied ∨ out.1 = .unchanged then some out.2.version else none
                     countAfter   := some counted.count }] } }))

/-- The close of a committed EVICT of station `z` sent by `x`. A SYNCED station releases every claim of `z`, a SYNCING one those
in its covered segments, each with the version raised; a station with a lineage counts and folds it; LISTEN and STRANDED take
it as evidence. `z`'s peer entry becomes ABSENT, PEER_EVICTED is posted and the transfers with `z` end; a station that is
itself `z` posts SELF_EVICTED and keeps them (R15, R16, R41, R134, R136). -/
def Obligations.EvictCloseReleasesClaimsAndPeer : Prop :=
  ∀ (s u : State) (line : Levels) (own : Bool) (x z : Station), s.takesClose line own x (.evict z) u →
    let s₁ := u.afterClose own (.evict z)
    let follows (i : Index) : Bool :=
      match u.sync.state with
      | .synced     => true
      | .syncing .. => u.table.covered[i.val / 16]'(by omega)
      | _           => false
    let s₂ : State :=
      { s₁ with
        table :=
          { u.table with
            records := tab fun i =>
              if follows i = true ∧ u.table.records[i].claimant = some z then
                { u.table.records[i] with claimant := none, version := u.table.records[i].version + 1 }
              else u.table.records[i] }
        sync  :=
          match u.sync.state with
          | .listen | .stranded => { u.sync with evidenceHeard := true }
          | _ =>
            { u.sync with
              position :=
                if u.sync.position.origin = none then u.sync.position
                else u.sync.position.after (BitVec.ofNat 8 x.val) 4 0 (BitVec.ofNat 8 z.val) } }
    (z = u.straps.number → exec (.evictClose line) s = .next (s₂.post (.selfEvicted x))) ∧
    (z ≠ u.straps.number →
      exec (.evictClose line) s = .next
        (((s₂.withPeer z
            { u.peers.entries[z] with
              state := .absent, hits := 0, misses := 0, watchTimer := none, evictPending := false }).post
          (.peerEvicted z x)).peerLost z))

/-- The close of a committed WIPE of generation `g` sent by `x`. Every outbound entry ends with CANCELLED_WIPE. A SYNCED station
takes the new lineage on a zeroed and covered replica, ends its serving and posts WIPED; a SYNCING one becomes SYNCED with it;
LISTEN and STRANDED take it as evidence (R17, R43, R68, R90). -/
def Obligations.WipeCloseBeginsNewLineage : Prop :=
  ∀ (s u : State) (line : Levels) (own : Bool) (x : Station) (g : Half), s.takesClose line own x (.wipe g) u →
    let s₁ := u.afterClose own (.wipe g)
    let s₂ : State :=
      { s₁ with
        update :=
          { u.update with outbound := [], completions := u.update.completions ++ u.cancelled .cancelledWipe, held := false } }
    let wiped : TableUnit :=
      { u.table with
        records := tab fun _ => ⟨⟨0, 0, 0, 0⟩, 0, none, none⟩
        covered := tab fun _ => true }
    (u.sync.state = .synced →
      exec (.wipeClose line) s = .next
        (State.postAll
          { s₂ with
            table := wiped
            sync  := { u.sync with position := ⟨g, some x, 0, 0⟩, wipePending := none, donor := none } }
          (u.servingEnds .wiped ++ [.wiped x g]))) ∧
    (∀ sub next attempts, u.sync.state = .syncing sub next attempts →
      exec (.wipeClose line) s = .next
        (State.postAll
          { s₂ with
            table := wiped
            sync  :=
              { u.sync with
                state := .synced, position := ⟨g, some x, 0, 0⟩, wipePending := none, syncRequest := false
                listenTimer := none, offerTimer := none, segmentTimer := none }
            bus   := { s₂.bus with rejectStreak := 0 } }
          [.wiped x g, .stateChanged .synced .wiped])) ∧
    (u.sync.state = .listen ∨ u.sync.state = .stranded →
      exec (.wipeClose line) s = .next { s₂ with sync := { u.sync with evidenceHeard := true } })

/-! ### Closes: PRESENCE -/

/-- The close of another station's committed PRESENCE. Its peer entry takes what it carried and its hysteresis moves; then the
sync controller acts: SYNCED against SYNCED it compares positions, a sender ahead moving the station to SYNCING with BEHIND;
LISTEN and STRANDED note evidence or a lower-numbered starter, a SYNCED peer ending STRANDED; elsewhere the relation becomes
UNKNOWN (R76, R83, R84, R86, R124 to R128, R131). -/
def Obligations.PresenceCloseMovesPeerThenController : Prop :=
  ∀ (s u : State) (line : Levels) (x : Station) (st iv : Byte) (carried : Carried),
    s.takesClose line false x (.presence st iv carried) u → x ≠ u.straps.number →
    let own : Carried :=
      ⟨u.sync.position.generation, u.sync.position.origin.getD 0, u.sync.position.count, u.sync.position.digest⟩
    let p := (u.peers.entries[x].afterPresence x u.port.inEffect.lockN st iv carried).1
    let up := (u.peers.entries[x].afterPresence x u.port.inEffect.lockN st iv carried).2
    let heard (r : Relation) : State := (u.afterReceived.withPeer x { p with relation := r }).postAll up
    let lower : Prop := x < u.straps.number ∧ (st = 1 ∨ st = 2 ∨ st = 4)
    (u.sync.state = .synced → st = 3 → comparePositions carried own = .ahead →
      exec (.presenceClose line) s = .next ((heard p.relation).outOfSynced .behind)) ∧
    (u.sync.state = .synced → st = 3 → comparePositions carried own = .behind →
      exec (.presenceClose line) s = .next (heard .lagging)) ∧
    (u.sync.state = .synced → st = 3 → comparePositions carried own = .equal →
      exec (.presenceClose line) s = .next (heard .consistent)) ∧
    (u.sync.state = .synced → st ≠ 3 → exec (.presenceClose line) s = .next (heard .unknown)) ∧
    (∀ sub next attempts, u.sync.state = .syncing sub next attempts →
      exec (.presenceClose line) s = .next (heard .unknown)) ∧
    (u.sync.state = .stranded → st = 3 →
      exec (.presenceClose line) s = .next ((heard .unknown).nowRequesting .syncedPeerHeard)) ∧
    (u.sync.state = .listen → st = 3 →
      exec (.presenceClose line) s = .next
        { heard .unknown with sync := { u.sync with evidenceHeard := true } }) ∧
    (u.sync.state = .listen ∨ u.sync.state = .stranded → st ≠ 3 → lower →
      exec (.presenceClose line) s = .next
        { heard .unknown with sync := { u.sync with lowerHeard := true } }) ∧
    (u.sync.state = .listen ∨ u.sync.state = .stranded → st ≠ 3 → ¬ lower →
      exec (.presenceClose line) s = .next (heard .unknown))

/-- The own committed PRESENCE clears the pending flag and changes no peer entry. Another station's PRESENCE under the own number
changes no entry and records no relation, but the sync controller still acts on it: one that reports SYNCED and is ahead moves a
SYNCED station to SYNCING, and one that reports SYNCED is evidence in LISTEN and ends STRANDED; otherwise it changes nothing
(R31, R76, R83, R84, R121, R123). -/
def Obligations.PresenceUnderOwnNumberChangesNoEntry : Prop :=
  ∀ (s u : State) (line : Levels) (st iv : Byte) (carried : Carried),
    (s.takesClose line true u.straps.number (.presence st iv carried) u →
      exec (.presenceClose line) s = .next
        { u.afterSent (.presence st iv carried) with peers := { u.peers with presencePending := false } }) ∧
    (s.takesClose line false u.straps.number (.presence st iv carried) u →
      (u.sync.state = .synced →
        exec (.presenceClose line) s = .next
          (if st = 3 ∧
              comparePositions carried
                ⟨u.sync.position.generation, u.sync.position.origin.getD 0, u.sync.position.count, u.sync.position.digest⟩
                = .ahead then
            u.afterReceived.outOfSynced .behind
          else u.afterReceived)) ∧
      (u.sync.state = .listen → st = 3 →
        exec (.presenceClose line) s = .next { u.afterReceived with sync := { u.sync with evidenceHeard := true } }) ∧
      (u.sync.state = .stranded → st = 3 →
        exec (.presenceClose line) s = .next (u.afterReceived.nowRequesting .syncedPeerHeard)) ∧
      (u.sync.state = .listen ∨ u.sync.state = .stranded → st ≠ 3 →
        exec (.presenceClose line) s = .next u.afterReceived) ∧
      (∀ sub next attempts, u.sync.state = .syncing sub next attempts →
        exec (.presenceClose line) s = .next u.afterReceived))

/-! ### Closes: catch-up transfers -/

/-- The own committed SYNC_REQUEST stops being pending and starts the offer timer at P. A SYNCED station that hears one from `j`
ends a transfer it serves to `j` and then, with DONOR_ENABLE on and serving nobody, acts on its offer slot; in any other state
the request changes nothing (R99, R102, R107). -/
def Obligations.SyncRequestCloseSetsOffer : Prop :=
  ∀ (s u : State) (line : Levels) (k : Segment),
    (∀ next attempts, s.takesClose line true u.straps.number (.syncRequest k) u →
      u.sync.state = .syncing .requesting next attempts → u.sync.syncRequest = true →
      exec (.syncRequestClose line) s = .next
        { u.afterSent (.syncRequest k) with
          sync :=
            { u.sync with syncRequest := false, offerTimer := some u.port.inEffect.presenceInterval } }) ∧
    (∀ j : Station, s.takesClose line false j (.syncRequest k) u →
      let served : Bool := match u.sync.donor with | some d => d.joiner == j | none => false
      let s₁ : State :=
        if served then
          State.post { u.afterReceived with sync := { u.sync with donor := none } } (.donorEnded j .reRequested)
        else u.afterReceived
      (u.sync.state ≠ .synced → exec (.syncRequestClose line) s = .next u.afterReceived) ∧
      (u.sync.state = .synced →
        (u.port.inEffect.donorEnable = false ∨ s₁.sync.donor ≠ none ∨ j = u.straps.number →
          exec (.syncRequestClose line) s = .next s₁) ∧
        (u.port.inEffect.donorEnable = true → s₁.sync.donor = none → j ≠ u.straps.number →
          exec (.syncRequestClose line) s = .next
            { s₁ with
              sync :=
                { s₁.sync with
                  offer :=
                    match u.sync.offer with
                    | none   => some ⟨j, k⟩
                    | some o => if o.joiner = j then some ⟨j, k⟩ else some o } })))

/-- The own committed OFFER begins serving. A joiner in REQUESTING takes an OFFER that names it and starts at its next segment;
any other station withdraws its own pending OFFER for that joiner; LISTEN and STRANDED take it as evidence
(R76, R101, R103, R104). -/
def Obligations.OfferCloseNamesDonor : Prop :=
  ∀ (s u : State) (line : Levels) (j : Station) (k : Segment),
    (s.takesClose line true u.straps.number (.offer j k) u → u.sync.state = .synced →
      exec (.offerClose line) s = .next
        { u.afterSent (.offer j k) with
          sync := { u.sync with donor := some { joiner := j, next := k, attempts := 0 }, offer := none } }) ∧
    (∀ x : Station, s.takesClose line false x (.offer j k) u →
      let slot : Option OfferSlot := u.sync.offer.filter fun o => o.joiner != j
      (∀ next attempts, u.sync.state = .syncing .requesting next attempts →
        (j = u.straps.number → k = next →
          exec (.offerClose line) s = .next
            { u.afterReceived with
              sync :=
                { u.sync with
                  state := .syncing (.receiving x) next attempts, offer := slot, syncRequest := false, offerTimer := none
                  segmentTimer := some (4 * u.port.inEffect.presenceInterval) } }) ∧
        (j ≠ u.straps.number ∨ k ≠ next →
          exec (.offerClose line) s = .next { u.afterReceived with sync := { u.sync with offer := slot } })) ∧
      (u.sync.state = .synced ∨ (∃ d next attempts, u.sync.state = .syncing (.receiving d) next attempts) →
        exec (.offerClose line) s = .next { u.afterReceived with sync := { u.sync with offer := slot } }) ∧
      (u.sync.state = .listen ∨ u.sync.state = .stranded →
        exec (.offerClose line) s = .next
          { u.afterReceived with sync := { u.sync with offer := slot, evidenceHeard := true } }))

/-- The close of another station's committed SNAPSHOT. A joiner RECEIVING from its sender accepts its next segment: the first
gives it the position, a later one must carry its own position, the last makes it SYNCED; a position that differs restarts the
transfer from segment 0. Every other SNAPSHOT is disregarded, but for evidence in LISTEN and STRANDED
(R20, R81, R109, R110, R111, R112). -/
def Obligations.SnapshotCloseAcceptsNextSegment : Prop :=
  ∀ (s u : State) (line : Levels) (x j : Station) (k : Segment) (carried : Carried) (rs : Vector Rec 16),
    s.takesClose line false x (.snapshot j k carried rs) u →
    let position : Position := ⟨carried.generation, some carried.origin, carried.count, carried.digest⟩
    let records : Vector Rec 256 :=
      tab fun i => if i.val / 16 = k.val then rs[i.val % 16]'(Nat.mod_lt _ (by decide)) else u.table.records[i]
    let table : TableUnit := { u.table with records := records, covered := put u.table.covered k true }
    (∀ attempts, u.sync.state = .syncing (.receiving x) k attempts → j = u.straps.number →
      (k.val = 0 ∨ u.sync.position = position →
        (∀ next : Segment, next.val = k.val + 1 →
          exec (.snapshotClose line) s = .next
            { u.afterReceived with
              table := table
              sync  :=
                { u.sync with
                  state := .syncing (.receiving x) next attempts, position := position
                  segmentTimer := some (4 * u.port.inEffect.presenceInterval) } }) ∧
        (k.val = 15 → (∀ m : Segment, m.val < 15 → u.table.covered[m] = true) →
          exec (.snapshotClose line) s = .next
            (State.post
              { u.afterReceived with
                table := table
                sync  :=
                  { u.sync with
                    state := .synced, position := position, syncRequest := false, listenTimer := none
                    offerTimer := none, segmentTimer := none } }
              (.stateChanged .synced .transferDone)))) ∧
      (k.val ≠ 0 → u.sync.position ≠ position →
        exec (.snapshotClose line) s = .next
          ((State.post
            { u.afterReceived with
              table := { u.table with covered := tab fun _ => false }
              sync  := { u.sync with position := ⟨0, none, 0, 0⟩ } }
            (.transferRestart .countMismatch)).attemptFailed 0 attempts))) ∧
    (u.sync.state = .synced ∨ (∃ next attempts, u.sync.state = .syncing .requesting next attempts) ∨
        (∃ d next attempts, u.sync.state = .syncing (.receiving d) next attempts ∧
          (j ≠ u.straps.number ∨ d ≠ x ∨ next ≠ k)) →
      exec (.snapshotClose line) s = .next u.afterReceived) ∧
    (u.sync.state = .listen ∨ u.sync.state = .stranded →
      exec (.snapshotClose line) s = .next
        { u.afterReceived with sync := { u.sync with evidenceHeard := true } })

/-- The donor settles its own SNAPSHOT: a COMMITTED close moves it to the next segment with attempts 0, or ends serving with
DONE after segment 15; a DISCARDED one, whether another station drove the slot or the own readback spoiled the frame, raises the
attempts, and on reaching RETRY_LIMIT ends serving with FAILED, NUMBER_CLASH following it; a donor that no longer serves settles
nothing (R33, R106, R151, log 11). -/
def Obligations.DonorSettlesItsSnapshot : Prop :=
  ∀ (s u : State) (line : Levels) (o : OwnFrame) (j : Station) (k : Segment) (carried : Carried) (rs : Vector Rec 16),
    s.sendsFrame line o u → o.frame = .snapshot j k carried rs → u.sync.leavePending = false → u.sync.state = .synced →
    (o.spoil = none → o.rejected = false →
      let s₁ := u.afterSent o.frame
      (u.sync.donor = none → exec (.snapshotClose line) s = .next s₁) ∧
      ∀ d : DonorRecord, u.sync.donor = some d →
        (∀ next : Segment, next.val = d.next.val + 1 →
          exec (.snapshotClose line) s = .next
            { s₁ with sync := { u.sync with donor := some { joiner := d.joiner, next := next, attempts := 0 } } }) ∧
        (d.next.val = 15 →
          exec (.snapshotClose line) s = .next
            (State.post { s₁ with sync := { u.sync with donor := none } } (.donorEnded d.joiner .done)))) ∧
    (o.spoil.isSome = true ∨ o.rejected = true →
      let s₁ := u.afterDiscarded o.frame o.spoil.isSome
      (u.sync.donor = none → exec (.discardedClose line) s = .next (s₁.spoilCounted o.spoil.isSome)) ∧
      ∀ d : DonorRecord, u.sync.donor = some d →
        (d.attempts + 1 < u.port.inEffect.retryLimit →
          exec (.discardedClose line) s = .next
            (State.spoilCounted { s₁ with sync := { u.sync with donor := some { d with attempts := d.attempts + 1 } } }
              o.spoil.isSome)) ∧
        (d.attempts + 1 = u.port.inEffect.retryLimit →
          exec (.discardedClose line) s = .next
            (State.spoilCounted
              (State.post { s₁ with sync := { u.sync with donor := none } } (.donorEnded d.joiner .failed))
              o.spoil.isSome)))

/-! ### Timers -/

/-- The listen timer's expiry: in LISTEN a set flag leads to a request from segment 0 and clear flags to founding; in STRANDED a
set flag restarts the window and clear flags lead to founding (R77, R78, R83). -/
def Obligations.ListenTimerExpiryEndsWindow : Prop :=
  ∀ s : State, s.sync.listenTimer ≠ none →
    (s.sync.state = .listen → s.sync.evidenceHeard = true ∨ s.sync.lowerHeard = true →
      exec .listenTimerExpiry s = .next (s.nowRequesting .joined)) ∧
    (s.sync.state = .stranded → s.sync.evidenceHeard = true ∨ s.sync.lowerHeard = true →
      exec .listenTimerExpiry s = .next
        { s with
          sync :=
            { s.sync with
              listenTimer := some (3 * s.port.inEffect.presenceInterval), evidenceHeard := false, lowerHeard := false } }) ∧
    (s.sync.state = .listen ∨ s.sync.state = .stranded → s.sync.evidenceHeard = false → s.sync.lowerHeard = false →
      exec .listenTimerExpiry s = .next s.nowFounder)

/-- The presence timer's firing sets the pending PRESENCE and starts the next interval. The offer timer's expiry in REQUESTING
raises the attempts and re-requests, or strands. The segment timer's expiry in RECEIVING posts TRANSFER_RESTART(TIMEOUT) and
does the same (R100, R113, R122). That leave-pending stays set where an expiry strands the station is the model's choice between R93
and the table of R96 (log 32). -/
def Obligations.PresenceOfferAndSegmentTimers : Prop :=
  ∀ s : State,
    (s.peers.presenceTimer ≠ none →
      exec .presenceTimer s = .next
        { s with
          peers :=
            { s.peers with presencePending := true, presenceTimer := some s.port.inEffect.presenceInterval } }) ∧
    (∀ next attempts, s.sync.offerTimer ≠ none → s.sync.state = .syncing .requesting next attempts →
      exec .offerTimerExpiry s = .next (s.attemptFailed next attempts)) ∧
    (∀ d next attempts, s.sync.segmentTimer ≠ none → s.sync.state = .syncing (.receiving d) next attempts →
      exec .segmentTimerExpiry s = .next ((s.post (.transferRestart .timeout)).attemptFailed next attempts))

/-- A peer's watch timer expires: an ARRIVING entry becomes ABSENT; a PRESENT entry fades and a FADING one counts a miss, each
watched again for twice the advertised P; at UNLOCK_N misses the entry becomes ABSENT, PEER_DOWN is posted, evict-pending is
set where the station is SYNCED, and the transfers with the peer end (R126, R127, R128, R130, R132). That leave-pending stays set where
the loss of the donor strands the station is the model's choice between R93 and the table of R96 (log 32). -/
def Obligations.WatchTimerExpiryFadesPeer : Prop :=
  ∀ (s : State) (x : Station), x ≠ s.straps.number → s.peers.entries[x].watchTimer ≠ none →
    let p := s.peers.entries[x]
    let misses := if p.state = .fading then p.misses + 1 else 1
    let absent : Peer := { p with state := .absent, hits := 0, misses := 0, watchTimer := none }
    (p.state = .arriving → exec (.watchTimerExpiry x) s = .next ((s.withPeer x absent).peerLost x)) ∧
    (p.state = .present ∨ p.state = .fading →
      (misses < s.port.inEffect.unlockN →
        exec (.watchTimerExpiry x) s = .next
          (s.withPeer x { p with state := .fading, misses := misses, watchTimer := some (2 * p.advertisedP) })) ∧
      (misses = s.port.inEffect.unlockN →
        exec (.watchTimerExpiry x) s = .next
          (((s.withPeer x
              { absent with
                evictPending := match s.sync.state with | .synced => true | _ => p.evictPending }).post
            (.peerDown x)).peerLost x)))

/-! ### Streaks -/

/-- The spoil streak rises at the close of an own spoiled frame, and NUMBER_CLASH is posted last on reaching 3; at 3 it stays and
nothing is posted; an own matched close, JOIN and a hard reset set it to 0; everything else keeps it (R151). -/
def Obligations.SpoilStreakRaisesNumberClash : Prop :=
  ∀ (c : Instr) (s t : State), exec c s = .next t →
    ((∃ sn br low, c = .hardReset sn br low) ∨ (c = .join ∧ s.hostReady ∧ s.sync.state = .idle) → t.bus.spoilStreak = 0) ∧
    (∀ f, s.matchedOwnClose c f → t.bus.spoilStreak = 0) ∧
    (∀ f, s.spoiledOwnClose c f →
      (s.bus.spoilStreak < 3 → t.bus.spoilStreak = s.bus.spoilStreak + 1) ∧
      (s.bus.spoilStreak = 3 → t.bus.spoilStreak = 3) ∧
      (s.bus.spoilStreak = 2 → s.sync.leavePending = false →
        t.port.events.getLast? = some .numberClash ∨ 16 ≤ t.port.events.length ∧ 1 ≤ t.port.lost)) ∧
    (¬ (∃ sn br low, c = .hardReset sn br low) → ¬ (c = .join ∧ s.hostReady ∧ s.sync.state = .idle) →
      (¬ ∃ f, s.matchedOwnClose c f) → (¬ ∃ f, s.spoiledOwnClose c f) → t.bus.spoilStreak = s.bus.spoilStreak) ∧
    ((¬ ∃ f, s.spoiledOwnClose c f ∧ s.bus.spoilStreak = 2) →
      t.port.events.count .numberClash ≤ s.port.events.count .numberClash)

/-- The win streak rises at each close of an own class 2 or 3 frame, and on reaching YIELD_N becomes 0 with the sit-out flag set;
with YIELD_N 0 it is held at 0. An own class 0 or 1 close keeps it. A lost arbitration, another station's close, intact or
bad, and a lost place set it to 0, as do a hard reset, JOIN and going IDLE, which clear the sit-out flag too (R154). Every other
command keeps the streak, and keeps the sit-out flag but where an offer point uses it (R155); an IDLE station has no own frame in
flight (EveryStepKeepsRoles). -/
def Obligations.WinStreakSetsSitOut : Prop :=
  ∀ (c : Instr) (s t : State), exec c s = .next t →
    let lostArbitration : Prop :=
      ∃ line u, c = .lostArbitration line ∧ s.heard line = some (.lostArbitration, u) ∧ ∃ o, u.bus.current = .own o
    let otherClose : Prop := s.intactClose c ∨ ∃ rejecting, s.badFrameCloses c rejecting
    let lostPlace : Prop := ∃ line how u, c = .lostPlace line ∧ s.heard line = some (.lostPlace how, u)
    let sessionEnds : Prop :=
      (∃ sn br low, c = .hardReset sn br low) ∨ (c = .join ∧ s.hostReady ∧ s.sync.state = .idle) ∨
        (s.sync.state ≠ .idle ∧ t.sync.state = .idle)
    (∀ f, s.matchedOwnClose c f ∨ s.spoiledOwnClose c f → s.sync.leavePending = false →
      (f.kind ≠ .update → f.kind ≠ .snapshot → t.selector = s.selector) ∧
      (f.kind = .update ∨ f.kind = .snapshot →
        (s.port.inEffect.yieldN = 0 → t.selector = { winStreak := 0, sitOut := s.selector.sitOut }) ∧
        (s.selector.winStreak + 1 < s.port.inEffect.yieldN →
          t.selector = { winStreak := s.selector.winStreak + 1, sitOut := s.selector.sitOut }) ∧
        (s.selector.winStreak + 1 = s.port.inEffect.yieldN → t.selector = { winStreak := 0, sitOut := true }))) ∧
    (lostArbitration ∨ otherClose ∨ lostPlace → t.selector.winStreak = 0) ∧
    (sessionEnds → t.selector = { winStreak := 0, sitOut := false }) ∧
    ((¬ ∃ f, s.matchedOwnClose c f ∨ s.spoiledOwnClose c f) → ¬ lostArbitration → ¬ otherClose → ¬ lostPlace → ¬ sessionEnds →
      t.selector.winStreak = s.selector.winStreak) ∧
    ((¬ ∃ f, s.matchedOwnClose c f ∨ s.spoiledOwnClose c f) → ¬ sessionEnds → (s.sync.state = .idle → s.ownInFlight = false) →
      t.selector.sitOut ≠ s.selector.sitOut →
      s.selector.sitOut = true ∧ ∃ line u, c = .offerPoint line ∧ s.heard line = some (.offerPoint, u))

/-- The reject streak: one more at the close of a bad frame whose slot the station drove; 0 at the close of a frame received intact
and of an own frame whose readback matched; kept at an own spoiled close and at a bad frame not rejected; 0 at every change of
station state, at a hard reset and at JOIN; and kept by every other command (R35). That an IDLE station has no own frame in flight is
kept by every step (EveryStepKeepsRoles). -/
def Obligations.RejectStreakFollowsItsTable : Prop :=
  ∀ (c : Instr) (s t : State), exec c s = .next t →
    (s.badFrameCloses c true → t.bus.rejectStreak = s.bus.rejectStreak + 1) ∧
    (s.intactClose c → t.bus.rejectStreak = 0) ∧
    (∀ f, s.matchedOwnClose c f → t.bus.rejectStreak = 0) ∧
    (∀ f, s.spoiledOwnClose c f → s.sync.leavePending = false → t.bus.rejectStreak = s.bus.rejectStreak) ∧
    (s.badFrameCloses c false → t.sync.state.mode = s.sync.state.mode → t.bus.rejectStreak = s.bus.rejectStreak) ∧
    (t.sync.state.mode ≠ s.sync.state.mode → t.bus.rejectStreak = 0) ∧
    ((∃ sn br low, c = .hardReset sn br low) ∨ (c = .join ∧ s.hostReady ∧ s.sync.state = .idle) → t.bus.rejectStreak = 0) ∧
    (¬ s.badFrameCloses c true → ¬ s.intactClose c → (¬ ∃ f, s.matchedOwnClose c f) →
      t.sync.state.mode = s.sync.state.mode → ¬ (∃ sn br low, c = .hardReset sn br low) →
      (s.sync.state = .idle → s.ownInFlight = false) → t.bus.rejectStreak = s.bus.rejectStreak)

/-! ### What every step keeps -/

/-- Credit: at most 16 outbound entries and at most 32 entries and completion records together, after every step; the sum rises
only by one, at an accepted change command (R52). -/
def Obligations.EveryStepKeepsCredit : Prop :=
  ∀ s t : State, s.creditOk → step s = .next t →
    t.creditOk ∧ (t.update.completions.length = 32 → t.update.outbound = []) ∧
    (s.update.outbound.length + s.update.completions.length < t.update.outbound.length + t.update.completions.length →
      t.update.outbound.length + t.update.completions.length
        = s.update.outbound.length + s.update.completions.length + 1 ∧
      ∃ (c : Instr) (rest : List Instr), s.pending = c :: rest ∧
        ∃ i, (∃ v, c = .write i v) ∨ (∃ e v, c = .cswap i e v) ∨ c = .claim i ∨ c = .release i)

/-- The event queue holds at most 16 events and at most one RECORD_CHANGED for a record, exactly while the record's
change-pending flag is set, after every step (R184, R186, R190). -/
def Obligations.EveryStepKeepsEventQueue : Prop :=
  ∀ s t : State, s.eventsOk → step s = .next t → t.eventsOk

/-- Coverage, lineage and joiner record agree with the station state after every step: none covered and no lineage in LISTEN and
STRANDED; in SYNCING exactly the segments below the next one covered, a lineage exactly where that is not 0, and fewer than
four failed attempts; all covered and a lineage in SYNCED (R2, R40, R97). -/
def Obligations.EveryStepKeepsHistory : Prop :=
  ∀ s t : State, s.historyOk → step s = .next t → t.historyOk

/-- Which station state may hold an outbound entry, a pending frame, a transfer, an evict-pending flag, a running timer or an
own frame in flight, and that the UPDATE in flight is the head, hold after every step (R54, R55, R68, R89, R92, R95, R97,
R98, R122, R132). -/
def Obligations.EveryStepKeepsRoles : Prop :=
  ∀ s t : State, s.RolesOk ∧ s.headInFlightOk → step s = .next t → t.RolesOk ∧ t.headInFlightOk

/-- Every counter stays inside the range its rule gives it after every step of a station whose roles hold; the head's attempts
stand at RETRY_LIMIT exactly where the queue is HELD, and those behind it at 0 (R35, R49, R59, R98, R120, R140, R154, R199). -/
def Obligations.EveryStepKeepsRanges : Prop :=
  ∀ s t : State, s.RolesOk → s.headInFlightOk → s.RangesOk → step s = .next t → t.RangesOk

/-- The machine after reset is a fixed point of the hard reset that chose its straps, and meets every invariant. The strap levels
and the zero records of the reset state are the model's choice (log 1, log 2). -/
def Obligations.ResetMeetsEveryInvariant : Prop :=
  exec (.hardReset 0 0 false) State.reset = .next State.reset ∧
    State.reset.creditOk ∧ State.reset.eventsOk ∧ State.reset.historyOk ∧ State.reset.RolesOk ∧
    State.reset.headInFlightOk ∧ State.reset.RangesOk

/-! ### Rules over all commands -/

/-- While a record is claimed by `x` its value changes only by an APPLIED UPDATE from `x`, an overwrite by another station's SNAPSHOT of
its segment, whose record it becomes, or a zeroing, and its claimant only by a RELEASE from `x`, an EVICT of `x`, such an overwrite
or a zeroing (R11). -/
def Obligations.ClaimedRecordChangesOnlyByItsRules : Prop :=
  ∀ (c : Instr) (s t : State) (i : Index) (x : Station),
    exec c s = .next t → s.table.records[i].claimant = some x →
    let zeroed : Prop :=
      t.table.records[i] = ⟨⟨0, 0, 0, 0⟩, 0, none, none⟩ ∧
        ((∃ line, c = .wipeClose line) ∨ c = .listenTimerExpiry ∨ c = .join ∨ c = .startUpClearComplete)
    let overwritten : Prop :=
      ∃ (line : Levels) (y j : Station) (k : Segment) (g : Carried) (rs : Vector Rec 16),
        c = .snapshotClose line ∧ s.carries line false y (.snapshot j k g rs) ∧ i.val / 16 = k.val ∧
          t.table.records[i] = rs[i.val % 16]'(Nat.mod_lt _ (by decide))
    (t.table.records[i].value ≠ s.table.records[i].value →
      (∃ line own ticket op, c = .updateClose line ∧ s.carries line own x (.update ticket op i) ∧
        evaluate s.table.records[i] x op = (.applied, t.table.records[i])) ∨ overwritten ∨ zeroed) ∧
    (t.table.records[i].claimant ≠ s.table.records[i].claimant →
      (∃ line own ticket, c = .updateClose line ∧ s.carries line own x (.update ticket .release i)) ∨
      (∃ line own y, c = .evictClose line ∧ s.carries line own y (.evict x)) ∨ overwritten ∨ zeroed)

/-- The history position changes only so: one ordered frame counted and folded, while SYNCED or SYNCING with a lineage; the new
lineage of a WIPE; founding; the position of an adopted first segment; or dropped, at the commands that begin a request from
segment 0, enter STRANDED, join or reset (R41, R43, R44). -/
def Obligations.PositionChangesOnlyByItsRules : Prop :=
  ∀ (c : Instr) (s t : State), exec c s = .next t → t.sync.position ≠ s.sync.position →
    let active : Prop := s.sync.state = .synced ∨ ∃ sub next attempts, s.sync.state = .syncing sub next attempts
    (∃ line own x ticket op i, c = .updateClose line ∧ s.carries line own x (.update ticket op i) ∧ active ∧
      s.sync.position.origin.isSome = true ∧
      t.sync.position = s.sync.position.after (BitVec.ofNat 8 x.val) 2 ticket (BitVec.ofNat 8 i.val)) ∨
    (∃ line own x z, c = .evictClose line ∧ s.carries line own x (.evict z) ∧ active ∧ s.sync.position.origin.isSome = true ∧
      t.sync.position = s.sync.position.after (BitVec.ofNat 8 x.val) 4 0 (BitVec.ofNat 8 z.val)) ∨
    (∃ line own x g, c = .wipeClose line ∧ s.carries line own x (.wipe g) ∧ active ∧ t.sync.position = ⟨g, some x, 0, 0⟩) ∨
    (c = .listenTimerExpiry ∧ t.sync.state = .synced ∧ t.sync.position = ⟨0, some s.straps.number, 0, 0⟩) ∨
    (∃ line x j, ∃ g : Carried, ∃ rs attempts, c = .snapshotClose line ∧ s.carries line false x (.snapshot j 0 g rs) ∧
      s.sync.state = .syncing (.receiving x) 0 attempts ∧
      t.sync.position = ⟨g.generation, some g.origin, g.count, g.digest⟩) ∨
    (t.sync.position = ⟨0, none, 0, 0⟩ ∧
      ((∃ sn br low, c = .hardReset sn br low) ∨ c = .join ∨ c = .listenTimerExpiry ∨ c = .offerTimerExpiry ∨
        c = .segmentTimerExpiry ∨ (∃ x, c = .watchTimerExpiry x) ∨ (∃ line, c = .lostPlace line) ∨
        (∃ line, c = .evictClose line) ∨
        (∃ line, c = .badFrameClose line ∨ c = .presenceClose line ∨ c = .snapshotClose line)))

/-- Every change of station state but a hard reset's is one of the table's, and its STATE_CHANGED is the last event posted, or is
lost on a full queue and counted (R94). -/
def Obligations.StateChangesArePostedWithTheirCause : Prop :=
  ∀ (c : Instr) (s t : State), exec c s = .next t → (∀ sn br low, c ≠ .hardReset sn br low) →
    t.sync.state.mode ≠ s.sync.state.mode →
    ∃ cause : Cause,
      (s.sync.state.mode, t.sync.state.mode, cause) ∈
        ([(.idle, .listen, .joined), (.listen, .syncing, .joined), (.listen, .synced, .founded),
          (.syncing, .synced, .transferDone), (.syncing, .synced, .wiped), (.syncing, .stranded, .attemptsExhausted),
          (.synced, .syncing, .behind), (.synced, .syncing, .missedFrame), (.stranded, .syncing, .syncedPeerHeard),
          (.stranded, .synced, .founded), (.listen, .idle, .left), (.syncing, .idle, .left), (.synced, .idle, .left),
          (.stranded, .idle, .left)] : List (Mode × Mode × Cause)) ∧
      (t.port.events.getLast? = some (.stateChanged t.sync.state.mode cause) ∨
        16 ≤ t.port.events.length ∧ 1 ≤ t.port.lost)

/-- What only the host sets: apart from a hard reset, the watch flags change only at WATCH and UNWATCH, the stored parameters at
CONFIGURE, the parameters in effect at JOIN, the interrupt enables at SET_INTERRUPTS, and the ticket counter at a change
command (R51, R182, R189, R200). -/
def Obligations.HostSettingsChangeOnlyByTheirCommands : Prop :=
  ∀ (c : Instr) (s t : State), exec c s = .next t → (∀ sn br low, c ≠ .hardReset sn br low) →
    (t.table.watch ≠ s.table.watch → ∃ i, c = .watch i ∨ c = .unwatch i) ∧
    (t.port.stored ≠ s.port.stored → ∃ o, c = .configure o) ∧
    (t.port.inEffect ≠ s.port.inEffect → c = .join ∧ t.port.inEffect = s.port.stored) ∧
    (t.port.eventEnable ≠ s.port.eventEnable ∨ t.port.completionEnable ≠ s.port.completionEnable →
      ∃ e k, c = .setInterrupts e k) ∧
    (t.update.ticket ≠ s.update.ticket →
      t.update.ticket = s.update.ticket + 1 ∧
        ∃ i, (∃ v, c = .write i v) ∨ (∃ e v, c = .cswap i e v) ∨ c = .claim i ∨ c = .release i)

/-- In IDLE the replica, its coverage and the position stand as the session left them: only JOIN, the start-up clear and a hard
reset touch them (R26, R27, R40). The end of a frame that has no close at the station, because the station is IDLE or was when
the frame began, frees the bus interface and changes nothing else (R27, R47); that the frame's close command stands for that end is
the model's choice (log 19). -/
def Obligations.IdleStationAndFrameWithoutCloseChangeNoBlock : Prop :=
  (∀ (c : Instr) (s t : State), exec c s = .next t → s.sync.state = .idle →
    c ≠ .join → c ≠ .startUpClearComplete → (∀ sn br low, c ≠ .hardReset sn br low) →
    t.sync.state = .idle ∧ t.table.records = s.table.records ∧ t.table.covered = s.table.covered ∧
      t.sync.position = s.sync.position) ∧
  (∀ (s u : State) (line : Levels) (r : Reader) (closes rejecting : Bool),
    s.heard line = some (.close, u) → u.bus.current = .receiving r closes rejecting → closes = false ∨ u.sync.state = .idle →
    (r.bad = true → exec (.badFrameClose line) s = .next (u.frameOver true)) ∧
    (r.discarded.isSome = true → exec (.discardedClose line) s = .next (u.frameOver false)) ∧
    (∀ x f, r.committed = some (x, f) → exec (closeOf f.kind line) s = .next (u.frameOver false)))

/-! ### Order, digest and encodings -/

/-- The order of history positions: generation, then count, then lower origin, then lower digest; of two positions that differ
exactly one is ahead, and every station gives the same answer (R85). -/
def Obligations.PositionOrderDecidesEveryPair : Prop :=
  ∀ a b : Carried,
    let later : Prop :=
      let d := (a.generation.toNat + 65536 - b.generation.toNat) % 65536
      1 ≤ d ∧ d ≤ 32767 ∨ d = 32768 ∧ b.generation.toNat < a.generation.toNat
    let higher : Prop :=
      let d := (a.count.toNat + 4294967296 - b.count.toNat) % 4294967296
      1 ≤ d ∧ d ≤ 2147483647 ∨ d = 2147483648 ∧ b.count.toNat < a.count.toNat
    (comparePositions a b = .ahead ↔
      a.generation ≠ b.generation ∧ later ∨
      a.generation = b.generation ∧ a.count ≠ b.count ∧ higher ∨
      a.generation = b.generation ∧ a.count = b.count ∧ a.origin.val < b.origin.val ∨
      a.generation = b.generation ∧ a.count = b.count ∧ a.origin = b.origin ∧ a.digest.toNat < b.digest.toNat) ∧
    (comparePositions a b = .equal ↔ a = b) ∧
    (comparePositions a b = .ahead ↔ comparePositions b a = .behind)

/-- Each of the four bytes of an ordered frame is combined with the top eight bits of the digest register, which then shifts left
eight times, taking the generator 0x04C11DB7 whenever a 1 leaves it. From one digest, two ordered frames that differ in any of the
four bytes fold to different digests (R42). -/
def Obligations.FoldTellsOrderedFramesApart : Prop :=
  (∀ (digest : Word) (b0 b1 b2 b3 : Byte),
    let shift (r : Word) : Word := if r.getMsbD 0 then (r <<< 1) ^^^ 0x04C11DB7 else r <<< 1
    let take (r : Word) (b : Byte) : Word := shift^[8] (r ^^^ (b ++ (0 : BitVec 24)))
    foldDigest digest [b0, b1, b2, b3] = take (take (take (take digest b0) b1) b2) b3) ∧
  (∀ (digest : Word) (a b : Vector Byte 4), foldDigest digest a.toList = foldDigest digest b.toList → a = b)

/-- A payload spells a frame exactly where it is that frame's payload under its kind code: every frame reads back as sent, and no
other payload, kind code, length or field out of its form spells one (R157, R158, R160, R161, R162, R164). -/
def Obligations.PayloadSpellsExactlyItsFrame : Prop :=
  ∀ (kind : BitVec 4) (payload : List Byte) (f : Frame),
    frameOf kind payload = some f ↔ kind = kindCode f.kind ∧ payload = payloadOf f

/-- A receiver reads from the line, inserted bits removed, every field a sender put on it, whatever the fields are; so each frame
sent is read as committed, or as discarded where its slot was driven, and a wrong class, CRC or delimiter, or a payload that spells no
frame, makes it bad (R28, R29, R141, R142, R143, R144). Heard from an idle bus, and by the sender from its offer point on, the
levels of a frame reach its close with that reading; what is heard changes nothing but what the bus interface follows the line
by. -/
def Obligations.LineReadsBackAsSent : Prop :=
  (∀ (keyClass : BitVec 2) (x : Station) (kind : BitVec 4) (payload : List Byte) (crc : Half) (d1 d2 d3 s1 s2 : Bool),
    payload.length < 1024 →
    let covered := bitsOf 4 kind.toNat ++ bitsOf 10 payload.length ++ bytesBits payload
    let fields  := bitsOf 2 keyClass.toNat ++ bitsOf 4 x.val ++ covered ++ bitsOf 16 crc.toNat
    let line    := false :: stuff Run.start fields ++ [d1, d2, d3, s1, s2]
    readLine line = some
      { keyClass := keyClass, sender := x, kind := kind, payload := payload
        crcGood := decide (crc = crc16 covered), broken := false
        delimiter := d1 && d2 && d3, rejected := !(s1 && s2) } ∧
    (crc ≠ crc16 covered ∨ d1 = false ∨ d2 = false ∨ d3 = false ∨ frameOf kind payload = none ∨
        (∃ f, frameOf kind payload = some f ∧ keyClass ≠ kindClass f.kind) →
      badLine line = true)) ∧
  (∀ (x : Station) (f : Frame) (s1 s2 : Bool),
    badLine (lineOf x f s1 s2) = false ∧
    (s1 = true ∧ s2 = true → committedFrame (lineOf x f s1 s2) = some (x, f) ∧ discardedFrame (lineOf x f s1 s2) = none) ∧
    (s1 = false ∨ s2 = false → discardedFrame (lineOf x f s1 s2) = some (x, f) ∧ committedFrame (lineOf x f s1 s2) = none)) ∧
  (∀ (s : State) (x : Station) (f : Frame) (s1 s2 : Bool), s.bus.due = none →
    (s.bus.current = .idle → s.bus.inStep = true → 11 ≤ s.bus.recessiveRun →
      ∃ u r, s.heard (lineOf x f s1 s2) = some (.close, u) ∧
        u.bus.current = .receiving r (s.sync.state ≠ .idle) false ∧
        (s1 = true ∧ s2 = true → r.committed = some (x, f)) ∧ (s1 = false ∨ s2 = false → r.discarded = some (x, f))) ∧
    (s.bus.current = .own { frame := f, position := 0, spoil := none, rejected := false } →
      ∃ u o, s.heard (lineOf s.straps.number f s1 s2) = some (.close, u) ∧ u.bus.current = .own o ∧ o.frame = f ∧
        o.spoil = none ∧ o.rejected = !(s1 && s2))) ∧
  (∀ (s u : State) (line : Levels) (event : LineEvent), s.heard line = some (event, u) →
    u = { s with bus := u.bus } ∧ u.bus.due = none ∧ u.bus.inStep = s.bus.inStep ∧ u.bus.slotDriven = s.bus.slotDriven ∧
      u.bus.spoilStreak = s.bus.spoilStreak ∧ u.bus.rejectStreak = s.bus.rejectStreak)

/-- The bytes of a transaction name a command exactly where they are its command byte and operands; and no shorter run of bits
reaches the taking point, while the whole does (R166, R167, R169). -/
def Obligations.HostPortBytesNameExactlyTheirCommand : Prop :=
  (∀ (c : Instr) (bytes : List Byte), decodeHostPort bytes = some c ↔ encodeHostPort c = some bytes) ∧
  (∀ (c : Instr) (bytes : List Byte), encodeHostPort c = some bytes →
    beforeTaking (bytesBits bytes) = false ∧
    ∀ n : Nat, n < 8 * bytes.length → beforeTaking ((bytesBits bytes).take n) = true)
end

