-- ==== Sys2Proof/Laws/Follow.lean ====
section
/-! SUPPORT. What following the line can do: the fields it keeps, runs of levels in parts, and what it means to have heard an
event. -/

namespace Sys2Proof.Machine

/-! ### The fields that no level read changes -/

/-- A level read keeps the step, both streaks and the record of the slot. -/
theorem BusInterface.hear_keeps (e : Ear) (bus : BusInterface) (b : Bool) :
    (bus.hear e b).inStep = bus.inStep ∧ (bus.hear e b).spoilStreak = bus.spoilStreak ∧
      (bus.hear e b).rejectStreak = bus.rejectStreak ∧ (bus.hear e b).slotDriven = bus.slotDriven := by
  unfold BusInterface.hear
  split
  · split
    · unfold BusInterface.hearIdle; split <;> [skip; (split <;> [skip; split])] <;> exact ⟨rfl, rfl, rfl, rfl⟩
    · unfold BusInterface.hearOutOfStep; split <;> [skip; split] <;> exact ⟨rfl, rfl, rfl, rfl⟩
  · unfold BusInterface.hearFrame; dsimp only
    split <;> exact ⟨rfl, rfl, rfl, rfl⟩
  · unfold BusInterface.hearOwn BusInterface.hearOwnSlot
    split
    · exact ⟨rfl, rfl, rfl, rfl⟩
    · split
      · exact ⟨rfl, rfl, rfl, rfl⟩
      · split <;> [skip; split] <;> exact ⟨rfl, rfl, rfl, rfl⟩

@[simp] theorem BusInterface.hear_inStep (e : Ear) (bus : BusInterface) (b : Bool) : (bus.hear e b).inStep = bus.inStep :=
  (hear_keeps e bus b).1

@[simp] theorem BusInterface.hear_spoilStreak (e : Ear) (bus : BusInterface) (b : Bool) :
    (bus.hear e b).spoilStreak = bus.spoilStreak := (hear_keeps e bus b).2.1

@[simp] theorem BusInterface.hear_rejectStreak (e : Ear) (bus : BusInterface) (b : Bool) :
    (bus.hear e b).rejectStreak = bus.rejectStreak := (hear_keeps e bus b).2.2.1

@[simp] theorem BusInterface.hear_slotDriven (e : Ear) (bus : BusInterface) (b : Bool) :
    (bus.hear e b).slotDriven = bus.slotDriven := (hear_keeps e bus b).2.2.2

/-! ### Runs of levels -/

/-- An invariant of a level read, at a bus interface with no event due, holds after a run of levels. -/
theorem BusInterface.follow_induction {P : BusInterface → Prop} {e : Ear}
    (step : ∀ bus b, bus.due = none → P bus → P (bus.hear e b)) {bus bus' : BusInterface} {line : Levels} (h : P bus)
    (hf : bus.follow e line = some bus') : P bus' := by
  induction line generalizing bus with
  | nil => exact (Option.some.inj hf) ▸ h
  | cons b line ih =>
    rw [BusInterface.follow] at hf
    split at hf
    · cases hf
    · next hd => exact ih (step bus b hd h) hf

/-- A run of levels keeps what each level keeps. -/
theorem BusInterface.follow_keeps {e : Ear} {bus bus' : BusInterface} {line : Levels} (hf : bus.follow e line = some bus') :
    bus'.inStep = bus.inStep ∧ bus'.spoilStreak = bus.spoilStreak ∧ bus'.rejectStreak = bus.rejectStreak ∧
      bus'.slotDriven = bus.slotDriven :=
  BusInterface.follow_induction
    (P := fun x => x.inStep = bus.inStep ∧ x.spoilStreak = bus.spoilStreak ∧ x.rejectStreak = bus.rejectStreak ∧
      x.slotDriven = bus.slotDriven)
    (fun x b _ hx => by simpa using hx) ⟨rfl, rfl, rfl, rfl⟩ hf

/-- A run of levels in two parts. -/
theorem BusInterface.follow_append (e : Ear) (bus : BusInterface) (l₁ l₂ : Levels) :
    bus.follow e (l₁ ++ l₂) = (bus.follow e l₁).bind fun x => x.follow e l₂ := by
  induction l₁ generalizing bus with
  | nil => rfl
  | cons b l₁ ih =>
    simp only [List.cons_append, BusInterface.follow]
    split
    · rfl
    · exact ih _

/-- A receiver's reading of a run of levels in two parts. -/
theorem Reader.hearAll_append (r : Reader) (l₁ l₂ : Levels) : r.hearAll (l₁ ++ l₂) = (r.hearAll l₁).hearAll l₂ := by
  induction l₁ generalizing r with
  | nil => rfl
  | cons b l₁ ih => exact ih _

/-! ### Events heard -/

/-- The levels have brought about `event`, with `u` the station after them, exactly where the bus interface follows them to it. -/
theorem State.heard_iff {s u : State} {line : Levels} {event : LineEvent} :
    s.heard line = some (event, u) ↔
      ∃ bus, s.bus.follow s.ear line = some bus ∧ bus.due = some event ∧ u = { s with bus := { bus with due := none } } := by
  unfold State.heard
  split
  · next h => simp [h]
  · next bus h =>
    split
    · next hd =>
      refine ⟨fun h' => (nomatch h'), ?_⟩
      rintro ⟨_, hb, hd', _⟩
      cases h.symm.trans hb
      simp [hd] at hd'
    · next e hd =>
      constructor
      · intro h'; cases h'; exact ⟨bus, h, hd, rfl⟩
      · rintro ⟨_, hb, hd', rfl⟩
        cases h.symm.trans hb
        rw [hd] at hd'; cases hd'; rfl

/-- No more levels: the event already due is taken. -/
theorem State.heard_nil {s : State} {event : LineEvent} (h : s.bus.due = some event) :
    s.heard [] = some (event, { s with bus := { s.bus with due := none } }) := by
  simp [State.heard, BusInterface.follow, h]

/-! ### Closes -/

/-- A frame read as committed is read intact with its slot recessive. -/
theorem Reader.committed_iff (r : Reader) (x : Station) (f : Frame) :
    r.committed = some (x, f) ↔ r.intact = some (x, f, false) := by
  unfold Reader.committed
  split
  · next h => simp [h]
  · next h => exact ⟨fun h' => (nomatch h'), fun h' => absurd h' (h x f)⟩

/-- A frame read as discarded is read intact with its slot driven. -/
theorem Reader.discarded_iff (r : Reader) (x : Station) (f : Frame) :
    r.discarded = some (x, f) ↔ r.intact = some (x, f, true) := by
  unfold Reader.discarded
  split
  · next h => simp [h]
  · next h => exact ⟨fun h' => (nomatch h'), fun h' => absurd h' (h x f)⟩

/-- A frame at its close is committed, discarded or bad. -/
theorem Reader.committed_or_discarded_or_bad (r : Reader) :
    (∃ x f, r.committed = some (x, f)) ∨ r.discarded.isSome = true ∨ r.bad = true := by
  unfold Reader.bad
  cases h : r.intact with
  | none => simp
  | some p =>
    obtain ⟨x, f, slot⟩ := p
    cases slot with
    | false => exact .inl ⟨x, f, (r.committed_iff x f).mpr h⟩
    | true => exact .inr (.inl (by rw [(r.discarded_iff x f).mpr h]; rfl))

/-- Where the levels reach the second slot bit of a frame, it ends as the bus interface has read it. -/
theorem State.closing_eq {s u : State} {line : Levels} (h : s.heard line = some (.close, u)) :
    s.closing line = (u.bus.current.ending u.number).map fun e => (e, u) := by
  simp [State.closing, h]

/-- Where the levels reach no close, nothing closes. -/
theorem State.closing_none {s : State} {line : Levels} (h : ∀ u, s.heard line ≠ some (.close, u)) : s.closing line = none := by
  unfold State.closing
  split
  · next u hu => exact absurd hu (h u)
  · rfl

end Sys2Proof.Machine
end

