-- ==== Sys2Proof/Laws/State.lean ====
section
/-! SUPPORT. One lemma per field per update of the state: what each plain update leaves as it stands. -/

namespace Sys2Proof.Machine

/-! ### post -/

@[simp] theorem State.post_straps (s : State) (e : Event) : (s.post e).straps = s.straps := rfl
@[simp] theorem State.post_table (s : State) (e : Event) : (s.post e).table = s.table := rfl
@[simp] theorem State.post_update (s : State) (e : Event) : (s.post e).update = s.update := rfl
@[simp] theorem State.post_sync (s : State) (e : Event) : (s.post e).sync = s.sync := rfl
@[simp] theorem State.post_peers (s : State) (e : Event) : (s.post e).peers = s.peers := rfl
@[simp] theorem State.post_bus (s : State) (e : Event) : (s.post e).bus = s.bus := rfl
@[simp] theorem State.post_selector (s : State) (e : Event) : (s.post e).selector = s.selector := rfl
@[simp] theorem State.post_clock (s : State) (e : Event) : (s.post e).clock = s.clock := rfl
@[simp] theorem State.post_pending (s : State) (e : Event) : (s.post e).pending = s.pending := rfl

/-! ### zeroRecords -/

@[simp] theorem State.zeroRecords_straps (s : State) : s.zeroRecords.straps = s.straps := rfl
@[simp] theorem State.zeroRecords_update (s : State) : s.zeroRecords.update = s.update := rfl
@[simp] theorem State.zeroRecords_sync (s : State) : s.zeroRecords.sync = s.sync := rfl
@[simp] theorem State.zeroRecords_peers (s : State) : s.zeroRecords.peers = s.peers := rfl
@[simp] theorem State.zeroRecords_bus (s : State) : s.zeroRecords.bus = s.bus := rfl
@[simp] theorem State.zeroRecords_selector (s : State) : s.zeroRecords.selector = s.selector := rfl
@[simp] theorem State.zeroRecords_port (s : State) : s.zeroRecords.port = s.port := rfl
@[simp] theorem State.zeroRecords_clock (s : State) : s.zeroRecords.clock = s.clock := rfl
@[simp] theorem State.zeroRecords_pending (s : State) : s.zeroRecords.pending = s.pending := rfl

/-! ### coverAll -/

@[simp] theorem State.coverAll_straps (s : State) (b : Bool) : (s.coverAll b).straps = s.straps := rfl
@[simp] theorem State.coverAll_update (s : State) (b : Bool) : (s.coverAll b).update = s.update := rfl
@[simp] theorem State.coverAll_sync (s : State) (b : Bool) : (s.coverAll b).sync = s.sync := rfl
@[simp] theorem State.coverAll_peers (s : State) (b : Bool) : (s.coverAll b).peers = s.peers := rfl
@[simp] theorem State.coverAll_bus (s : State) (b : Bool) : (s.coverAll b).bus = s.bus := rfl
@[simp] theorem State.coverAll_selector (s : State) (b : Bool) : (s.coverAll b).selector = s.selector := rfl
@[simp] theorem State.coverAll_port (s : State) (b : Bool) : (s.coverAll b).port = s.port := rfl
@[simp] theorem State.coverAll_clock (s : State) (b : Bool) : (s.coverAll b).clock = s.clock := rfl
@[simp] theorem State.coverAll_pending (s : State) (b : Bool) : (s.coverAll b).pending = s.pending := rfl

/-! ### dropPosition -/

@[simp] theorem State.dropPosition_straps (s : State) : s.dropPosition.straps = s.straps := rfl
@[simp] theorem State.dropPosition_table (s : State) : s.dropPosition.table = s.table := rfl
@[simp] theorem State.dropPosition_update (s : State) : s.dropPosition.update = s.update := rfl
@[simp] theorem State.dropPosition_peers (s : State) : s.dropPosition.peers = s.peers := rfl
@[simp] theorem State.dropPosition_bus (s : State) : s.dropPosition.bus = s.bus := rfl
@[simp] theorem State.dropPosition_selector (s : State) : s.dropPosition.selector = s.selector := rfl
@[simp] theorem State.dropPosition_port (s : State) : s.dropPosition.port = s.port := rfl
@[simp] theorem State.dropPosition_clock (s : State) : s.dropPosition.clock = s.clock := rfl
@[simp] theorem State.dropPosition_pending (s : State) : s.dropPosition.pending = s.pending := rfl

/-! ### releaseClaims -/

@[simp] theorem State.releaseClaims_straps (s : State) (z : Station) : (s.releaseClaims z).straps = s.straps := rfl
@[simp] theorem State.releaseClaims_update (s : State) (z : Station) : (s.releaseClaims z).update = s.update := rfl
@[simp] theorem State.releaseClaims_sync (s : State) (z : Station) : (s.releaseClaims z).sync = s.sync := rfl
@[simp] theorem State.releaseClaims_peers (s : State) (z : Station) : (s.releaseClaims z).peers = s.peers := rfl
@[simp] theorem State.releaseClaims_bus (s : State) (z : Station) : (s.releaseClaims z).bus = s.bus := rfl
@[simp] theorem State.releaseClaims_selector (s : State) (z : Station) : (s.releaseClaims z).selector = s.selector := rfl
@[simp] theorem State.releaseClaims_port (s : State) (z : Station) : (s.releaseClaims z).port = s.port := rfl
@[simp] theorem State.releaseClaims_clock (s : State) (z : Station) : (s.releaseClaims z).clock = s.clock := rfl
@[simp] theorem State.releaseClaims_pending (s : State) (z : Station) : (s.releaseClaims z).pending = s.pending := rfl

/-! ### overwriteSegment -/

@[simp] theorem State.overwriteSegment_straps (s : State) (k : Segment) (rs : Vector Rec 16) : (s.overwriteSegment k rs).straps = s.straps := rfl
@[simp] theorem State.overwriteSegment_update (s : State) (k : Segment) (rs : Vector Rec 16) : (s.overwriteSegment k rs).update = s.update := rfl
@[simp] theorem State.overwriteSegment_sync (s : State) (k : Segment) (rs : Vector Rec 16) : (s.overwriteSegment k rs).sync = s.sync := rfl
@[simp] theorem State.overwriteSegment_peers (s : State) (k : Segment) (rs : Vector Rec 16) : (s.overwriteSegment k rs).peers = s.peers := rfl
@[simp] theorem State.overwriteSegment_bus (s : State) (k : Segment) (rs : Vector Rec 16) : (s.overwriteSegment k rs).bus = s.bus := rfl
@[simp] theorem State.overwriteSegment_selector (s : State) (k : Segment) (rs : Vector Rec 16) : (s.overwriteSegment k rs).selector = s.selector := rfl
@[simp] theorem State.overwriteSegment_port (s : State) (k : Segment) (rs : Vector Rec 16) : (s.overwriteSegment k rs).port = s.port := rfl
@[simp] theorem State.overwriteSegment_clock (s : State) (k : Segment) (rs : Vector Rec 16) : (s.overwriteSegment k rs).clock = s.clock := rfl
@[simp] theorem State.overwriteSegment_pending (s : State) (k : Segment) (rs : Vector Rec 16) : (s.overwriteSegment k rs).pending = s.pending := rfl

/-! ### cancel -/

@[simp] theorem State.cancel_straps (s : State) (r : Result) : (s.cancel r).straps = s.straps := rfl
@[simp] theorem State.cancel_table (s : State) (r : Result) : (s.cancel r).table = s.table := rfl
@[simp] theorem State.cancel_sync (s : State) (r : Result) : (s.cancel r).sync = s.sync := rfl
@[simp] theorem State.cancel_peers (s : State) (r : Result) : (s.cancel r).peers = s.peers := rfl
@[simp] theorem State.cancel_bus (s : State) (r : Result) : (s.cancel r).bus = s.bus := rfl
@[simp] theorem State.cancel_selector (s : State) (r : Result) : (s.cancel r).selector = s.selector := rfl
@[simp] theorem State.cancel_port (s : State) (r : Result) : (s.cancel r).port = s.port := rfl
@[simp] theorem State.cancel_clock (s : State) (r : Result) : (s.cancel r).clock = s.clock := rfl
@[simp] theorem State.cancel_pending (s : State) (r : Result) : (s.cancel r).pending = s.pending := rfl

/-! ### setPeer -/

@[simp] theorem State.setPeer_straps (s : State) (x : Station) (p : Peer) : (s.setPeer x p).straps = s.straps := rfl
@[simp] theorem State.setPeer_table (s : State) (x : Station) (p : Peer) : (s.setPeer x p).table = s.table := rfl
@[simp] theorem State.setPeer_update (s : State) (x : Station) (p : Peer) : (s.setPeer x p).update = s.update := rfl
@[simp] theorem State.setPeer_sync (s : State) (x : Station) (p : Peer) : (s.setPeer x p).sync = s.sync := rfl
@[simp] theorem State.setPeer_bus (s : State) (x : Station) (p : Peer) : (s.setPeer x p).bus = s.bus := rfl
@[simp] theorem State.setPeer_selector (s : State) (x : Station) (p : Peer) : (s.setPeer x p).selector = s.selector := rfl
@[simp] theorem State.setPeer_port (s : State) (x : Station) (p : Peer) : (s.setPeer x p).port = s.port := rfl
@[simp] theorem State.setPeer_clock (s : State) (x : Station) (p : Peer) : (s.setPeer x p).clock = s.clock := rfl
@[simp] theorem State.setPeer_pending (s : State) (x : Station) (p : Peer) : (s.setPeer x p).pending = s.pending := rfl

/-! ### mapPeers -/

@[simp] theorem State.mapPeers_straps (s : State) (f : Peer → Peer) : (s.mapPeers f).straps = s.straps := rfl
@[simp] theorem State.mapPeers_table (s : State) (f : Peer → Peer) : (s.mapPeers f).table = s.table := rfl
@[simp] theorem State.mapPeers_update (s : State) (f : Peer → Peer) : (s.mapPeers f).update = s.update := rfl
@[simp] theorem State.mapPeers_sync (s : State) (f : Peer → Peer) : (s.mapPeers f).sync = s.sync := rfl
@[simp] theorem State.mapPeers_bus (s : State) (f : Peer → Peer) : (s.mapPeers f).bus = s.bus := rfl
@[simp] theorem State.mapPeers_selector (s : State) (f : Peer → Peer) : (s.mapPeers f).selector = s.selector := rfl
@[simp] theorem State.mapPeers_port (s : State) (f : Peer → Peer) : (s.mapPeers f).port = s.port := rfl
@[simp] theorem State.mapPeers_clock (s : State) (f : Peer → Peer) : (s.mapPeers f).clock = s.clock := rfl
@[simp] theorem State.mapPeers_pending (s : State) (f : Peer → Peer) : (s.mapPeers f).pending = s.pending := rfl

/-! ### enter -/

@[simp] theorem State.enter_straps (s : State) (st : StationState) : (s.enter st).straps = s.straps := rfl
@[simp] theorem State.enter_table (s : State) (st : StationState) : (s.enter st).table = s.table := rfl
@[simp] theorem State.enter_update (s : State) (st : StationState) : (s.enter st).update = s.update := rfl
@[simp] theorem State.enter_peers (s : State) (st : StationState) : (s.enter st).peers = s.peers := rfl
@[simp] theorem State.enter_selector (s : State) (st : StationState) : (s.enter st).selector = s.selector := rfl
@[simp] theorem State.enter_port (s : State) (st : StationState) : (s.enter st).port = s.port := rfl
@[simp] theorem State.enter_clock (s : State) (st : StationState) : (s.enter st).clock = s.clock := rfl
@[simp] theorem State.enter_pending (s : State) (st : StationState) : (s.enter st).pending = s.pending := rfl

/-! ### answer -/

@[simp] theorem State.answer_straps (s : State) (st : Status) (bytes : List Byte) : (s.answer st bytes).straps = s.straps := rfl
@[simp] theorem State.answer_table (s : State) (st : Status) (bytes : List Byte) : (s.answer st bytes).table = s.table := rfl
@[simp] theorem State.answer_update (s : State) (st : Status) (bytes : List Byte) : (s.answer st bytes).update = s.update := rfl
@[simp] theorem State.answer_sync (s : State) (st : Status) (bytes : List Byte) : (s.answer st bytes).sync = s.sync := rfl
@[simp] theorem State.answer_peers (s : State) (st : Status) (bytes : List Byte) : (s.answer st bytes).peers = s.peers := rfl
@[simp] theorem State.answer_bus (s : State) (st : Status) (bytes : List Byte) : (s.answer st bytes).bus = s.bus := rfl
@[simp] theorem State.answer_selector (s : State) (st : Status) (bytes : List Byte) : (s.answer st bytes).selector = s.selector := rfl
@[simp] theorem State.answer_clock (s : State) (st : Status) (bytes : List Byte) : (s.answer st bytes).clock = s.clock := rfl
@[simp] theorem State.answer_pending (s : State) (st : Status) (bytes : List Byte) : (s.answer st bytes).pending = s.pending := rfl

/-! ### frameEnds -/

@[simp] theorem State.frameEnds_straps (s : State) (bad : Bool) : (s.frameEnds bad).straps = s.straps := rfl
@[simp] theorem State.frameEnds_table (s : State) (bad : Bool) : (s.frameEnds bad).table = s.table := rfl
@[simp] theorem State.frameEnds_update (s : State) (bad : Bool) : (s.frameEnds bad).update = s.update := rfl
@[simp] theorem State.frameEnds_sync (s : State) (bad : Bool) : (s.frameEnds bad).sync = s.sync := rfl
@[simp] theorem State.frameEnds_peers (s : State) (bad : Bool) : (s.frameEnds bad).peers = s.peers := rfl
@[simp] theorem State.frameEnds_selector (s : State) (bad : Bool) : (s.frameEnds bad).selector = s.selector := rfl
@[simp] theorem State.frameEnds_port (s : State) (bad : Bool) : (s.frameEnds bad).port = s.port := rfl
@[simp] theorem State.frameEnds_clock (s : State) (bad : Bool) : (s.frameEnds bad).clock = s.clock := rfl
@[simp] theorem State.frameEnds_pending (s : State) (bad : Bool) : (s.frameEnds bad).pending = s.pending := rfl

/-! ### closeMatched -/

@[simp] theorem State.closeMatched_straps (s : State) (cl : Closing) : (s.closeMatched cl).straps = s.straps := rfl
@[simp] theorem State.closeMatched_table (s : State) (cl : Closing) : (s.closeMatched cl).table = s.table := rfl
@[simp] theorem State.closeMatched_update (s : State) (cl : Closing) : (s.closeMatched cl).update = s.update := rfl
@[simp] theorem State.closeMatched_sync (s : State) (cl : Closing) : (s.closeMatched cl).sync = s.sync := rfl
@[simp] theorem State.closeMatched_peers (s : State) (cl : Closing) : (s.closeMatched cl).peers = s.peers := rfl
@[simp] theorem State.closeMatched_port (s : State) (cl : Closing) : (s.closeMatched cl).port = s.port := rfl
@[simp] theorem State.closeMatched_clock (s : State) (cl : Closing) : (s.closeMatched cl).clock = s.clock := rfl
@[simp] theorem State.closeMatched_pending (s : State) (cl : Closing) : (s.closeMatched cl).pending = s.pending := rfl

/-! ### closeSpoiled -/

@[simp] theorem State.closeSpoiled_straps (s : State) (f : Frame) : (s.closeSpoiled f).straps = s.straps := rfl
@[simp] theorem State.closeSpoiled_table (s : State) (f : Frame) : (s.closeSpoiled f).table = s.table := rfl
@[simp] theorem State.closeSpoiled_update (s : State) (f : Frame) : (s.closeSpoiled f).update = s.update := rfl
@[simp] theorem State.closeSpoiled_sync (s : State) (f : Frame) : (s.closeSpoiled f).sync = s.sync := rfl
@[simp] theorem State.closeSpoiled_peers (s : State) (f : Frame) : (s.closeSpoiled f).peers = s.peers := rfl
@[simp] theorem State.closeSpoiled_port (s : State) (f : Frame) : (s.closeSpoiled f).port = s.port := rfl
@[simp] theorem State.closeSpoiled_clock (s : State) (f : Frame) : (s.closeSpoiled f).clock = s.clock := rfl
@[simp] theorem State.closeSpoiled_pending (s : State) (f : Frame) : (s.closeSpoiled f).pending = s.pending := rfl

/-! ### replied -/

@[simp] theorem State.replied_straps (s : State) (code : Byte) (bytes : List Byte) : (s.replied code bytes).straps = s.straps := rfl
@[simp] theorem State.replied_table (s : State) (code : Byte) (bytes : List Byte) : (s.replied code bytes).table = s.table := rfl
@[simp] theorem State.replied_update (s : State) (code : Byte) (bytes : List Byte) : (s.replied code bytes).update = s.update := rfl
@[simp] theorem State.replied_sync (s : State) (code : Byte) (bytes : List Byte) : (s.replied code bytes).sync = s.sync := rfl
@[simp] theorem State.replied_peers (s : State) (code : Byte) (bytes : List Byte) : (s.replied code bytes).peers = s.peers := rfl
@[simp] theorem State.replied_bus (s : State) (code : Byte) (bytes : List Byte) : (s.replied code bytes).bus = s.bus := rfl
@[simp] theorem State.replied_selector (s : State) (code : Byte) (bytes : List Byte) : (s.replied code bytes).selector = s.selector := rfl
@[simp] theorem State.replied_clock (s : State) (code : Byte) (bytes : List Byte) : (s.replied code bytes).clock = s.clock := rfl
@[simp] theorem State.replied_pending (s : State) (code : Byte) (bytes : List Byte) : (s.replied code bytes).pending = s.pending := rfl

/-! ### withPeer -/

@[simp] theorem State.withPeer_straps (s : State) (x : Station) (p : Peer) : (s.withPeer x p).straps = s.straps := rfl
@[simp] theorem State.withPeer_table (s : State) (x : Station) (p : Peer) : (s.withPeer x p).table = s.table := rfl
@[simp] theorem State.withPeer_update (s : State) (x : Station) (p : Peer) : (s.withPeer x p).update = s.update := rfl
@[simp] theorem State.withPeer_sync (s : State) (x : Station) (p : Peer) : (s.withPeer x p).sync = s.sync := rfl
@[simp] theorem State.withPeer_bus (s : State) (x : Station) (p : Peer) : (s.withPeer x p).bus = s.bus := rfl
@[simp] theorem State.withPeer_selector (s : State) (x : Station) (p : Peer) : (s.withPeer x p).selector = s.selector := rfl
@[simp] theorem State.withPeer_port (s : State) (x : Station) (p : Peer) : (s.withPeer x p).port = s.port := rfl
@[simp] theorem State.withPeer_clock (s : State) (x : Station) (p : Peer) : (s.withPeer x p).clock = s.clock := rfl
@[simp] theorem State.withPeer_pending (s : State) (x : Station) (p : Peer) : (s.withPeer x p).pending = s.pending := rfl

/-! ### afterReceived -/

@[simp] theorem State.afterReceived_straps (s : State) : s.afterReceived.straps = s.straps := rfl
@[simp] theorem State.afterReceived_table (s : State) : s.afterReceived.table = s.table := rfl
@[simp] theorem State.afterReceived_update (s : State) : s.afterReceived.update = s.update := rfl
@[simp] theorem State.afterReceived_sync (s : State) : s.afterReceived.sync = s.sync := rfl
@[simp] theorem State.afterReceived_peers (s : State) : s.afterReceived.peers = s.peers := rfl
@[simp] theorem State.afterReceived_port (s : State) : s.afterReceived.port = s.port := rfl
@[simp] theorem State.afterReceived_clock (s : State) : s.afterReceived.clock = s.clock := rfl
@[simp] theorem State.afterReceived_pending (s : State) : s.afterReceived.pending = s.pending := rfl

/-! ### afterSent -/

@[simp] theorem State.afterSent_straps (s : State) (f : Frame) : (s.afterSent f).straps = s.straps := rfl
@[simp] theorem State.afterSent_table (s : State) (f : Frame) : (s.afterSent f).table = s.table := rfl
@[simp] theorem State.afterSent_update (s : State) (f : Frame) : (s.afterSent f).update = s.update := rfl
@[simp] theorem State.afterSent_sync (s : State) (f : Frame) : (s.afterSent f).sync = s.sync := rfl
@[simp] theorem State.afterSent_peers (s : State) (f : Frame) : (s.afterSent f).peers = s.peers := rfl
@[simp] theorem State.afterSent_port (s : State) (f : Frame) : (s.afterSent f).port = s.port := rfl
@[simp] theorem State.afterSent_clock (s : State) (f : Frame) : (s.afterSent f).clock = s.clock := rfl
@[simp] theorem State.afterSent_pending (s : State) (f : Frame) : (s.afterSent f).pending = s.pending := rfl

/-! ### afterSpoiled -/

@[simp] theorem State.afterSpoiled_straps (s : State) (f : Frame) : (s.afterSpoiled f).straps = s.straps := rfl
@[simp] theorem State.afterSpoiled_table (s : State) (f : Frame) : (s.afterSpoiled f).table = s.table := rfl
@[simp] theorem State.afterSpoiled_update (s : State) (f : Frame) : (s.afterSpoiled f).update = s.update := rfl
@[simp] theorem State.afterSpoiled_sync (s : State) (f : Frame) : (s.afterSpoiled f).sync = s.sync := rfl
@[simp] theorem State.afterSpoiled_peers (s : State) (f : Frame) : (s.afterSpoiled f).peers = s.peers := rfl
@[simp] theorem State.afterSpoiled_port (s : State) (f : Frame) : (s.afterSpoiled f).port = s.port := rfl
@[simp] theorem State.afterSpoiled_clock (s : State) (f : Frame) : (s.afterSpoiled f).clock = s.clock := rfl
@[simp] theorem State.afterSpoiled_pending (s : State) (f : Frame) : (s.afterSpoiled f).pending = s.pending := rfl

/-! ### frameOver -/

@[simp] theorem State.frameOver_straps (s : State) (bad : Bool) : (s.frameOver bad).straps = s.straps := rfl
@[simp] theorem State.frameOver_table (s : State) (bad : Bool) : (s.frameOver bad).table = s.table := rfl
@[simp] theorem State.frameOver_update (s : State) (bad : Bool) : (s.frameOver bad).update = s.update := rfl
@[simp] theorem State.frameOver_sync (s : State) (bad : Bool) : (s.frameOver bad).sync = s.sync := rfl
@[simp] theorem State.frameOver_peers (s : State) (bad : Bool) : (s.frameOver bad).peers = s.peers := rfl
@[simp] theorem State.frameOver_selector (s : State) (bad : Bool) : (s.frameOver bad).selector = s.selector := rfl
@[simp] theorem State.frameOver_port (s : State) (bad : Bool) : (s.frameOver bad).port = s.port := rfl
@[simp] theorem State.frameOver_clock (s : State) (bad : Bool) : (s.frameOver bad).clock = s.clock := rfl
@[simp] theorem State.frameOver_pending (s : State) (bad : Bool) : (s.frameOver bad).pending = s.pending := rfl

/-! ### afterDiscarded -/

@[simp] theorem State.afterDiscarded_straps (s : State) (f : Frame) (b : Bool) : (s.afterDiscarded f b).straps = s.straps := by cases b <;> rfl
@[simp] theorem State.afterDiscarded_table (s : State) (f : Frame) (b : Bool) : (s.afterDiscarded f b).table = s.table := by cases b <;> rfl
@[simp] theorem State.afterDiscarded_update (s : State) (f : Frame) (b : Bool) : (s.afterDiscarded f b).update = s.update := by cases b <;> rfl
@[simp] theorem State.afterDiscarded_sync (s : State) (f : Frame) (b : Bool) : (s.afterDiscarded f b).sync = s.sync := by cases b <;> rfl
@[simp] theorem State.afterDiscarded_peers (s : State) (f : Frame) (b : Bool) : (s.afterDiscarded f b).peers = s.peers := by cases b <;> rfl
@[simp] theorem State.afterDiscarded_port (s : State) (f : Frame) (b : Bool) : (s.afterDiscarded f b).port = s.port := by cases b <;> rfl
@[simp] theorem State.afterDiscarded_clock (s : State) (f : Frame) (b : Bool) : (s.afterDiscarded f b).clock = s.clock := by cases b <;> rfl
@[simp] theorem State.afterDiscarded_pending (s : State) (f : Frame) (b : Bool) : (s.afterDiscarded f b).pending = s.pending := by cases b <;> rfl

/-! ### The fields an update does write, and the rest of their block -/

@[simp] theorem State.enter_state (s : State) (st : StationState) : (s.enter st).sync.state = st := rfl
@[simp] theorem State.enter_position (s : State) (st : StationState) : (s.enter st).sync.position = s.sync.position := rfl
@[simp] theorem State.dropPosition_state (s : State) : s.dropPosition.sync.state = s.sync.state := rfl
@[simp] theorem State.dropPosition_position (s : State) : s.dropPosition.sync.position = Position.none := rfl
@[simp] theorem State.coverAll_records (s : State) (b : Bool) : (s.coverAll b).table.records = s.table.records := rfl
@[simp] theorem State.coverAll_covered (s : State) (b : Bool) : (s.coverAll b).table.covered = tab fun _ => b := rfl
@[simp] theorem State.coverAll_watch (s : State) (b : Bool) : (s.coverAll b).table.watch = s.table.watch := rfl
@[simp] theorem State.coverAll_changePending (s : State) (b : Bool) : (s.coverAll b).table.changePending = s.table.changePending := rfl
@[simp] theorem State.zeroRecords_records (s : State) : s.zeroRecords.table.records = tab fun _ => Rec.zero := rfl
@[simp] theorem State.zeroRecords_covered (s : State) : s.zeroRecords.table.covered = s.table.covered := rfl
@[simp] theorem State.zeroRecords_watch (s : State) : s.zeroRecords.table.watch = s.table.watch := rfl
@[simp] theorem State.zeroRecords_changePending (s : State) : s.zeroRecords.table.changePending = s.table.changePending := rfl
@[simp] theorem State.releaseClaims_covered (s : State) (z : Station) : (s.releaseClaims z).table.covered = s.table.covered := rfl
@[simp] theorem State.releaseClaims_watch (s : State) (z : Station) : (s.releaseClaims z).table.watch = s.table.watch := rfl
@[simp] theorem State.releaseClaims_changePending (s : State) (z : Station) : (s.releaseClaims z).table.changePending = s.table.changePending := rfl
@[simp] theorem State.cancel_outbound (s : State) (r : Result) : (s.cancel r).update.outbound = [] := rfl
@[simp] theorem State.cancel_held (s : State) (r : Result) : (s.cancel r).update.held = false := rfl
@[simp] theorem State.cancel_ticket (s : State) (r : Result) : (s.cancel r).update.ticket = s.update.ticket := rfl
@[simp] theorem State.setPeer_presenceTimer (s : State) (x : Station) (p : Peer) : (s.setPeer x p).peers.presenceTimer = s.peers.presenceTimer := rfl
@[simp] theorem State.setPeer_presencePending (s : State) (x : Station) (p : Peer) : (s.setPeer x p).peers.presencePending = s.peers.presencePending := rfl
@[simp] theorem State.mapPeers_presenceTimer (s : State) (f : Peer → Peer) : (s.mapPeers f).peers.presenceTimer = s.peers.presenceTimer := rfl
@[simp] theorem State.mapPeers_presencePending (s : State) (f : Peer → Peer) : (s.mapPeers f).peers.presencePending = s.peers.presencePending := rfl

@[simp] theorem State.setPeer_entries (s : State) (x y : Station) (p : Peer) :
    (s.setPeer x p).peers.entries[y] = if y = x then p else s.peers.entries[y] := by
  simp [State.setPeer, put_getElem, Fin.ext_iff]

@[simp] theorem State.mapPeers_entries (s : State) (f : Peer → Peer) (y : Station) :
    (s.mapPeers f).peers.entries[y] = f s.peers.entries[y] := by
  simp [State.mapPeers]

/-! ### post: the rest of the host port -/

@[simp] theorem HostPort.post_starting (p : HostPort) (e : Event) : (p.post e).starting = p.starting := by
  unfold HostPort.post; split <;> rfl

@[simp] theorem State.post_port_starting (s : State) (e : Event) : (s.post e).port.starting = s.port.starting :=
  HostPort.post_starting s.port e

@[simp] theorem HostPort.post_phase (p : HostPort) (e : Event) : (p.post e).phase = p.phase := by
  unfold HostPort.post; split <;> rfl

@[simp] theorem State.post_port_phase (s : State) (e : Event) : (s.post e).port.phase = s.port.phase :=
  HostPort.post_phase s.port e

@[simp] theorem HostPort.post_result (p : HostPort) (e : Event) : (p.post e).result = p.result := by
  unfold HostPort.post; split <;> rfl

@[simp] theorem State.post_port_result (s : State) (e : Event) : (s.post e).port.result = s.port.result :=
  HostPort.post_result s.port e

@[simp] theorem HostPort.post_priorTruncated (p : HostPort) (e : Event) : (p.post e).priorTruncated = p.priorTruncated := by
  unfold HostPort.post; split <;> rfl

@[simp] theorem State.post_port_priorTruncated (s : State) (e : Event) : (s.post e).port.priorTruncated = s.port.priorTruncated :=
  HostPort.post_priorTruncated s.port e

@[simp] theorem HostPort.post_eventEnable (p : HostPort) (e : Event) : (p.post e).eventEnable = p.eventEnable := by
  unfold HostPort.post; split <;> rfl

@[simp] theorem State.post_port_eventEnable (s : State) (e : Event) : (s.post e).port.eventEnable = s.port.eventEnable :=
  HostPort.post_eventEnable s.port e

@[simp] theorem HostPort.post_completionEnable (p : HostPort) (e : Event) : (p.post e).completionEnable = p.completionEnable := by
  unfold HostPort.post; split <;> rfl

@[simp] theorem State.post_port_completionEnable (s : State) (e : Event) : (s.post e).port.completionEnable = s.port.completionEnable :=
  HostPort.post_completionEnable s.port e

@[simp] theorem HostPort.post_stored (p : HostPort) (e : Event) : (p.post e).stored = p.stored := by
  unfold HostPort.post; split <;> rfl

@[simp] theorem State.post_port_stored (s : State) (e : Event) : (s.post e).port.stored = s.port.stored :=
  HostPort.post_stored s.port e

@[simp] theorem HostPort.post_inEffect (p : HostPort) (e : Event) : (p.post e).inEffect = p.inEffect := by
  unfold HostPort.post; split <;> rfl

@[simp] theorem State.post_port_inEffect (s : State) (e : Event) : (s.post e).port.inEffect = s.port.inEffect :=
  HostPort.post_inEffect s.port e

end Sys2Proof.Machine
end

