-- ==== Sys2Proof/Laws/Ops.lean ====
section
/-! SUPPORT. One lemma per shared operation: everything it can do, in the words of the claims. -/

namespace Sys2Proof.Machine

/-! ### The host port -/

theorem statusByte_eq (st : Status) (b : Bool) :
    statusByte st b = if b then 0x80 ||| statusCode st else statusCode st := by
  cases b <;> cases st <;> rfl

/-- Filling the result buffer is the reply of the status code. -/
theorem State.answer_eq (s : State) (st : Status) (bytes : List Byte) :
    s.answer st bytes = s.replied (statusCode st) bytes := by
  simp only [State.answer, State.replied, statusByte_eq]

/-- A command of a ready port runs its own tests and action. -/
theorem State.takeCommand_ready {s : State} (h : s.hostReady) (n : Nat) (act : State → Reply) :
    s.takeCommand n act = (act s).state.replied (statusCode (act s).status) (act s).bytes := by
  simp [State.takeCommand, h.1, h.2, State.answer_eq]

/-- A command during the start-up clear is answered NOT_READY. -/
theorem State.takeCommand_starting {s : State} (hp : s.port.phase = .command) (hs : s.port.starting = true) (n : Nat)
    (act : State → Reply) : s.takeCommand n act = s.replied 7 (List.replicate n 0) := by
  simp [State.takeCommand, hp, hs, State.answer_eq, refuse, statusCode]

/-- Outside the part of a transaction in which a command is read nothing is taken. -/
theorem State.takeCommand_outside {s : State} (hp : s.port.phase ≠ .command) (n : Nat) (act : State → Reply) :
    s.takeCommand n act = s := by
  simp [State.takeCommand, hp]

/-! ### Events -/

theorem HostPort.post_room {p : HostPort} (h : p.events.length < 16) (e : Event) :
    p.post e = { p with events := p.events ++ [e] } := by
  simp [HostPort.post, Config.eventLimit, h]

theorem HostPort.post_full {p : HostPort} (h : 16 ≤ p.events.length) (e : Event) :
    p.post e = { p with lost := min 255 (p.lost + 1) } := by
  simp [HostPort.post, Config.eventLimit, Config.lostLimit, Nat.not_lt.mpr h]

/-- A posted event is the last of the queue, or is lost and counted. -/
theorem HostPort.post_last (p : HostPort) (e : Event) :
    (p.post e).events.getLast? = some e ∨ 16 ≤ (p.post e).events.length ∧ 1 ≤ (p.post e).lost := by
  by_cases h : p.events.length < 16
  · simp [HostPort.post_room h]
  · rw [HostPort.post_full (Nat.le_of_not_lt h)]
    exact .inr ⟨Nat.le_of_not_lt h, by simp⟩

@[simp] theorem State.postAll_nil (s : State) : s.postAll [] = s := rfl

@[simp] theorem State.postAll_cons (s : State) (e : Event) (es : List Event) :
    s.postAll (e :: es) = (s.post e).postAll es := rfl

theorem State.postAll_append (s : State) (es fs : List Event) :
    s.postAll (es ++ fs) = (s.postAll es).postAll fs := by
  simp [State.postAll]

/-- Posting events touches the host port alone. -/
theorem State.postAll_eq (s : State) (es : List Event) : s.postAll es = { s with port := es.foldl HostPort.post s.port } := by
  induction es generalizing s with
  | nil => rfl
  | cons e es ih => rw [State.postAll_cons, ih]; rfl

/-- The watch check touches the events, the lost-event count and the change-pending flags alone. -/
theorem State.noteChange_cases (s : State) (i : Index) (x : Station) :
    s.noteChange i x = s ∨
    (s.table.watch[i] = true ∧ s.table.changePending[i] = false ∧ s.port.events.length < 16 ∧
      s.noteChange i x =
        { s with
          table := { s.table with changePending := put s.table.changePending i true }
          port  := { s.port with events := s.port.events ++ [.recordChanged i x] } }) ∨
    (s.table.watch[i] = true ∧ s.table.changePending[i] = false ∧ 16 ≤ s.port.events.length ∧
      s.noteChange i x = { s with port := { s.port with lost := min 255 (s.port.lost + 1) } }) := by
  unfold State.noteChange
  split
  · next h =>
    simp at h
    split
    · next h' => exact .inr (.inl ⟨h.1, h.2, h', rfl⟩)
    · next h' => exact .inr (.inr ⟨h.1, h.2, Nat.le_of_not_lt h', rfl⟩)
  · exact .inl rfl

/-! ### The update engine -/

theorem Entry.ended_eq (e : Entry) (r : Result) : e.ended r = ⟨e.ticket, e.op, e.index, r, none, none⟩ := rfl

/-- A cancellation moves every entry to the completion queue, head first, and clears HELD. -/
theorem State.cancel_eq (s : State) (r : Result) :
    s.cancel r =
      { s with
        update :=
          { s.update with outbound := [], completions := s.update.completions ++ s.cancelled r, held := false } } := rfl

/-- Settling or failing the head touches the queues, HELD and, under HOLD, the events. -/
theorem State.settleHead_cons {s : State} {e : Entry} {rest : List Entry} (h : s.update.outbound = e :: rest) (r : Result)
    (v : Half) :
    s.settleHead r v =
      { s with
        update :=
          { s.update with
            outbound    := rest
            completions := s.update.completions ++
              [⟨e.ticket, e.op, e.index, r, versionAfter r v, some s.sync.position.count⟩] } } := by
  simp [State.settleHead, h]

theorem State.settleHead_nil {s : State} (h : s.update.outbound = []) (r : Result) (v : Half) : s.settleHead r v = s := by
  simp [State.settleHead, h]

theorem State.failHead_nil {s : State} (h : s.update.outbound = []) : s.failHead = s := by
  simp [State.failHead, h]

theorem State.failHead_below {s : State} {e : Entry} {rest : List Entry} (h : s.update.outbound = e :: rest)
    (hn : e.attempts + 1 < s.port.inEffect.retryLimit) :
    s.failHead =
      { s with update := { s.update with outbound := { e with attempts := e.attempts + 1 } :: rest } } := by
  simp [State.failHead, h, hn]

theorem State.failHead_drop {s : State} {e : Entry} {rest : List Entry} (h : s.update.outbound = e :: rest)
    (hn : ¬ e.attempts + 1 < s.port.inEffect.retryLimit) (hp : s.port.inEffect.failPolicy = .drop) :
    s.failHead =
      { s with
        update :=
          { s.update with
            outbound := rest, completions := s.update.completions ++ [e.ended .droppedRetries] } } := by
  simp [State.failHead, h, hn, hp]

theorem State.failHead_hold {s : State} {e : Entry} {rest : List Entry} (h : s.update.outbound = e :: rest)
    (hn : ¬ e.attempts + 1 < s.port.inEffect.retryLimit) (hp : s.port.inEffect.failPolicy = .hold) :
    s.failHead =
      { s with
        update := { s.update with outbound := { e with attempts := e.attempts + 1 } :: rest, held := true }
        port   := s.port.post (.queueHeld e.ticket) } := by
  simp [State.failHead, h, hn, hp]; rfl

/-! ### State changes -/

/-- Serving ends with its event, or there was none. -/
theorem State.endServing_eq (s : State) (why : EndReason) :
    s.endServing why = State.postAll { s with sync := { s.sync with donor := none } } (s.servingEnds why) := by
  unfold State.endServing State.servingEnds
  cases h : s.sync.donor with
  | none => simp [State.postAll, ← h]
  | some d => simp [State.postAll]

/-- Leaving SYNCED, as one update. -/
theorem State.leaveSynced_eq (s : State) (cause : Cause) : s.leaveSynced cause = s.outOfSynced cause := by
  unfold State.leaveSynced State.outOfSynced State.endServing State.servingEnds
  cases h : s.sync.donor <;> simp [h, State.cancel] <;> rfl

/-- Going IDLE, as one update. -/
theorem State.goIdle_eq (s : State) : s.goIdle = s.nowIdle := by
  rcases s with ⟨straps, table, update, ⟨st, lp, pos, lt, ev, lo, wp, sr, donor, offer, ot, sgt⟩, peers,
    ⟨step, run, current, sp, rj, tail, sd, due⟩, selector, port, clock, pending⟩
  cases donor <;> cases current <;> rfl

/-- Entering STRANDED, as one update. -/
theorem State.strand_eq (s : State) : s.strand = s.nowStranded := rfl

/-- Founding, as one update. -/
theorem State.found_eq (s : State) : s.found = s.nowFounder := rfl

/-- Beginning a request outside SYNCED, as one update. -/
theorem State.beginRequest_eq (s : State) (cause : Cause) :
    s.beginRequest.post (.stateChanged .syncing cause) = s.nowRequesting cause := rfl

/-- A joiner's failed attempt. -/
theorem State.retry_eq (s : State) (next : Segment) (attempts : Nat) :
    s.retry next attempts = s.attemptFailed next attempts := rfl

/-- The end of the transfers with a station. -/
theorem State.loseTransfers_eq (s : State) (x : Station) : s.loseTransfers x = s.peerLost x := by
  unfold State.loseTransfers State.peerLost State.endServing
  cases h : s.sync.donor with
  | none => dsimp only; cases s.sync.state with
    | syncing sub => cases sub <;> rfl
    | _ => rfl
  | some d =>
    by_cases hd : d.joiner = x
    · subst hd
      dsimp only
      simp only [if_true, State.post]
      cases s.sync.state with
      | syncing sub => cases sub <;> rfl
      | _ => rfl
    · dsimp only
      rw [if_neg hd, if_neg hd]
      cases s.sync.state with
      | syncing sub => cases sub <;> rfl
      | _ => rfl

/-- The station becomes SYNCED, as one update. -/
theorem State.becomeSynced_eq (s : State) :
    s.becomeSynced =
      { s with
        sync :=
          { s.sync with
            state := .synced, syncRequest := false, listenTimer := none, offerTimer := none, segmentTimer := none }
        bus  := { s.bus with rejectStreak := 0 } } := rfl

/-- Evidence is noted in LISTEN and STRANDED alone. -/
theorem State.hearEvidence_eq (s : State) :
    s.hearEvidence =
      if s.sync.state.listens then { s with sync := { s.sync with evidenceHeard := true } } else s := by
  unfold State.hearEvidence
  cases h : s.sync.state <;> simp [StationState.listens]

/-- An ordered frame is counted and folded while SYNCED or SYNCING with a lineage, and nowhere else. -/
theorem State.countFrame_eq (s : State) (b0 b1 b2 b3 : Byte) :
    s.countFrame [b0, b1, b2, b3] =
      { s with
        sync :=
          { s.sync with
            position :=
              match s.sync.state with
              | .synced | .syncing .. =>
                if s.sync.position.origin.isSome then s.sync.position.after b0 b1 b2 b3 else s.sync.position
              | _ => s.sync.position } } := by
  unfold State.countFrame
  cases s.sync.state <;> simp <;> split <;> rfl

/-! ### Closes -/

/-- The close of a committed frame the station takes: the bus interface's part, then the acts, with no leave pending. -/
theorem State.closeCommitted_takes {s u : State} {line : Levels} {own : Bool} {x : Station} {f : Frame}
    (h : s.takesClose line own x f u) (act : Closing → State → State) :
    s.closeCommitted line f.kind act = (act ⟨x, own, f⟩ (u.afterClose own f)).afterOwnClose own := by
  unfold State.takesClose at h
  cases own with
  | true =>
    obtain ⟨o, hs, rfl, h2, h3, h4, rfl⟩ := h
    rw [State.closeCommitted, State.closing_eq hs.1, hs.2.2]
    simp [Current.ending, h2, h3, State.handsClose, hs.2.1, hs.2.2, State.closeMatched, State.frameEnds, State.afterClose,
      State.afterSent]
  | false =>
    obtain ⟨r, rj, hr, hc⟩ := h
    rw [State.closeCommitted, State.closing_eq hr.1, hr.2.2]
    rw [Reader.committed_iff] at hc
    simp [Current.ending, hc, State.handsClose, hr.2.1, hr.2.2, State.closeMatched, State.frameEnds, State.afterClose,
      State.afterReceived]

/-- Where no leave is pending, nothing follows the close. -/
theorem State.afterOwnClose_eq {s : State} {own : Bool} (h : own = false ∨ s.sync.leavePending = false) :
    s.afterOwnClose own = s := by
  rcases h with h | h <;> simp [State.afterOwnClose, h]

end Sys2Proof.Machine
end

