-- ==== Sys2Proof/Tests/Slice0.lean ====
section
/-! SUPPORT. Small tests with results taken from the spec, the refusals of ill-formed commands, and for each claim with
hypotheses a state and operands that meet them. -/

namespace Sys2Proof.Tests

open Sys2Proof.Machine

-- One theorem after another: the kernel's evaluations would otherwise wait for each other on many threads.
set_option Elab.async false

/-! ### Small states -/

/-- Reset done, the start-up clear complete, and a transaction begun. -/
def up : State :=
  { State.reset with
    straps := ⟨3, .mbit1⟩
    port   := { State.reset.port with starting := false, phase := .command } }

/-- In step, the bus idle. -/
def idleBus : BusInterface := { BusInterface.reset with inStep := true, recessiveRun := 11 }

/-- The same station in step, in a station state. -/
def upIn (st : StationState) : State :=
  { up with sync := { up.sync with state := st }, bus := idleBus }

/-- A SYNCED station with a lineage and every segment covered. -/
def synced : State :=
  { upIn .synced with
    table := { up.table with covered := tab fun _ => true }
    sync  := { (upIn .synced).sync with position := ⟨1, some 2, 5, 9⟩ }
    peers := { up.peers with presenceTimer := some 10 } }

/-- A station with an own frame on the line, `n` bits read back. -/
def driving (s : State) (f : Frame) (n : Nat) : State :=
  { s with bus := { s.bus with inStep := true, current := .own ⟨f, n, none, false⟩ } }

/-- The own frame at the second slot bit. -/
def ownAtClose (s : State) (f : Frame) (spoil : Option Nat) (rejected : Bool) : OwnFrame :=
  ⟨f, (sentBits s.number f).length + 2, spoil, rejected⟩

/-- A station that has just read the second slot bit of its own frame. -/
def sending (s : State) (f : Frame) (spoil : Option Nat) (rejected : Bool) : State :=
  { s with bus := { s.bus with inStep := true, current := .own (ownAtClose s f spoil rejected), due := some .close } }

/-- The event of the level read last is taken. -/
def taken (s : State) : State := { s with bus := { s.bus with due := none } }

/-- A committed frame of station `x` on the line. -/
def wire (x : Station) (f : Frame) : Levels := lineOf x f true true

/-- The station after a run of levels, the event of the last of them taken. -/
def after (s : State) (line : Levels) : State := taken { s with bus := (s.bus.follow s.ear line).getD s.bus }

/-- The levels reach the close of the committed frame `f` of station `x`, received from its start bit on. -/
@[irreducible] def closesAs (e : Ear) (bus : BusInterface) (line : Levels) (x : Station) (f : Frame) : Bool :=
  match bus.follow e line with
  | some b =>
    decide (b.due = some .close) &&
      match b.current with
      | .receiving r true _ => decide (r.committed = some (x, f))
      | _ => false
  | none => false

theorem takes_received {s : State} {x : Station} {f : Frame} {line : Levels} (hs : s.sync.state ≠ .idle)
    (h : closesAs s.ear s.bus line x f = true) : s.takesClose line false x f (after s line) := by
  unfold closesAs at h
  split at h
  · next b hb =>
    simp only [Bool.and_eq_true, decide_eq_true_eq] at h
    obtain ⟨hd, h⟩ := h
    split at h
    · next r rj hc =>
      refine ⟨r, rj, ⟨State.heard_iff.mpr ⟨b, hb, hd, ?_⟩, hs, ?_⟩, of_decide_eq_true h⟩
      · simp [after, taken, hb]
      · simp [after, taken, hb, hc]
    · cases h
  · cases h

/-- What a receiver of the frame `f` of station `x` has read before the second slot bit. -/
def atLastBit (x : Station) (f : Frame) : Reader :=
  ⟨(fieldBits x f).reverse, 0, some (payloadOf f).length, Run.start, [true, true, true, true], 5⟩

/-- A station that has received that much of it, and the same station at its close. -/
def hearing (s : State) (x : Station) (f : Frame) : State :=
  { s with bus := { idleBus with current := .receiving (atLastBit x f) true false } }
def heardBy (s : State) (x : Station) (f : Frame) : State := after (hearing s x f) [true]

/-- The frame reads as committed. -/
abbrev reads (x : Station) (f : Frame) : Prop := ((atLastBit x f).hear true).committed = some (x, f)

/-- The station takes the close of the frame. -/
abbrev takes (s : State) (x : Station) (f : Frame) : Prop := (hearing s x f).takesClose [true] false x f (heardBy s x f)

theorem takes_heard {s : State} {x : Station} {f : Frame} (hs : s.sync.state ≠ .idle) (h : reads x f) : takes s x f :=
  ⟨_, _, ⟨State.heard_iff.mpr ⟨_, rfl, rfl, rfl⟩, hs, rfl⟩, h⟩

theorem takes_sent {s : State} {f : Frame} (hs : s.sync.state ≠ .idle) (hl : s.sync.leavePending = false) :
    (sending s f none false).takesClose [] true s.number f (taken (sending s f none false)) :=
  ⟨_, ⟨State.heard_nil rfl, hs, rfl⟩, rfl, rfl, rfl, hl, rfl⟩

/-- The levels reach the close of a frame of another station: the reading is bad, or intact with its slot driven. -/
@[irreducible] def closesBadly (e : Ear) (bus : BusInterface) (line : Levels) (bad rejecting : Bool) : Bool :=
  match bus.follow e line with
  | some b =>
    decide (b.due = some .close) &&
      match b.current with
      | .receiving r true rj => decide (rj = rejecting) && if bad then r.bad else r.discarded.isSome
      | _ => false
  | none => false

theorem hears_badly {s : State} {line : Levels} {bad rejecting : Bool} (hs : s.sync.state ≠ .idle)
    (h : closesBadly s.ear s.bus line bad rejecting = true) :
    ∃ r, s.hearsFrame line r rejecting (after s line) ∧ (if bad then r.bad else r.discarded.isSome) = true := by
  unfold closesBadly at h
  split at h
  · next b hb =>
    simp only [Bool.and_eq_true, decide_eq_true_eq] at h
    obtain ⟨hd, h⟩ := h
    split at h
    · next r rj hc =>
      simp only [Bool.and_eq_true, decide_eq_true_eq] at h
      obtain ⟨rfl, h⟩ := h
      refine ⟨r, ⟨State.heard_iff.mpr ⟨b, hb, hd, ?_⟩, hs, ?_⟩, h⟩
      · simp [after, taken, hb]
      · simp [after, taken, hb, hc]
    · cases h
  · cases h

/-- A SYNCED station with an entry and a completion record. -/
def queued : State :=
  { synced with
    update := { synced.update with outbound := [⟨7, .claim, 255, 3⟩], completions := [⟨6, .claim, 1, .applied, some 1, some 5⟩] } }

/-- Its head in flight, at the second slot bit. -/
def busy : State := sending queued (.update 7 .claim 255) none false

/-- A segment of records that differ from zero. -/
def segment : Vector Rec 16 := tab fun _ => ⟨⟨1, 2, 3, 4⟩, 0xFFFF, some 15, none⟩

/-- A SNAPSHOT for station 3. -/
def snap (k : Segment) : Frame := .snapshot 3 k ⟨1, 2, 5, 9⟩ segment

/-- A line whose first delimiter bit was read dominant. -/
def broken : Levels := (lineOf 1 (.evict 4) true true).dropLast.dropLast.dropLast.dropLast.dropLast ++ [false, true, true, true, true]

/-! ### Ill-formed commands are refused (WellFormed) -/

theorem test_wf_truncated_after_taking_point : (Instr.transactionTruncated (bytesBits [0x03])).wellFormed = false := by decide
theorem test_wf_truncated_before_taking_point : (Instr.transactionTruncated ((bytesBits [0x10, 0]).take 15)).wellFormed = true := by
  decide
theorem test_wf_bad_command_names_one : (Instr.badCommand 0x17).wellFormed = false := by decide
theorem test_wf_offer_point_after_dominant : (Instr.offerPoint [true, false]).wellFormed = false := by decide

/-! ### Words written out from the spec's tables -/

/-- 09 section 9.4: code 0x12, index 0x25, expected version 0x0103, value words 1, 2, 3, 4. -/
theorem test_decode_cswap :
    decodeHostPort [0x12, 0x25, 0x01, 0x03, 0, 0, 0, 1, 0, 0, 0, 2, 0, 0, 0, 3, 0, 0, 0, 4]
      = some (.cswap 0x25 0x0103 ⟨1, 2, 3, 4⟩) := by decide
/-- R172: the eight operands in order. -/
theorem test_decode_configure :
    decodeHostPort [0x02, 250, 15, 7, 32, 1, 8, 7, 0] = some (.configure ⟨250, 15, 7, 32, 1, 8, 7, 0⟩) := by decide
/-- R169: a code of no command is taken with no operands. -/
theorem test_decode_bad_command : decodeHostPort [0x33] = some (.badCommand 0x33) := by decide
/-- R161, R148: an OFFER of station 5 for joiner 9 from segment 3, bit by bit: start, class 0, number 5, kind 6, length 2, the
payload, and after six equal bits an inserted one. -/
theorem test_offer_fields :
    keyBits 5 .offer ++ coveredBits (.offer 9 3) =
      [false, false,  false, true, false, true,  false, true, true, false,
       false, false, false, false, false, false, false, false, true, false,
       false, false, false, false, true, false, false, true,  false, false, false, false, false, false, true, true] := by
  decide
/-- R142: six equal bits are followed by one of the opposite level, which begins a new run; none follows the last bit. -/
theorem test_inserted_bits :
    stuff Run.start [false, false, false, false, false, false, true, true, true, true, true, true] =
      [false, false, false, false, false, true, false, true, true, true, true, true, true] := by decide
/-- R143: the register of the generator 0x1021 started at 0xFFFF, over the nine characters 1 to 9 (the check value of this
CRC). -/
theorem test_crc16 : crc16 (bytesBits [0x31, 0x32, 0x33, 0x34, 0x35, 0x36, 0x37, 0x38, 0x39]) = 0x29B1 := by decide +kernel

/-- R42: the register of the generator 0x04C11DB7 over the nine characters 1 to 9, started at 0xFFFFFFFF (the check value of that
CRC). -/
theorem test_fold : foldDigest 0xFFFFFFFF [0x31, 0x32, 0x33, 0x34, 0x35, 0x36, 0x37, 0x38, 0x39] = 0x0376E6E7 := by decide +kernel

/-! ### One step each -/

/-- R85: at a difference of exactly half the range the numerically larger generation is later. -/
theorem test_generation_half : comparePositions ⟨0x8000, 0, 0, 0⟩ ⟨0, 0, 0, 0⟩ = .ahead := by decide
/-- R10: a version of 65535 becomes 0. -/
theorem test_version_wraps : (evaluate ⟨⟨0, 0, 0, 0⟩, 0xFFFF, none, none⟩ 4 .claim).2.version = 0 := by decide
/-- R51: the ticket counter wraps. -/
theorem test_ticket_wraps :
    ({ synced with update := { synced.update with ticket := 255 } }.acceptChange .claim 0).update.ticket = 0 := by decide
/-- R167: PRIOR_TRUNCATED is reported once, in the most significant bit. -/
theorem test_prior_truncated :
    (State.answer { up with port := { up.port with priorTruncated := true } } .state []).port.result = [0x83] := by decide
/-- R152: a WIPE goes before everything else, with the next generation. -/
theorem test_wipe_first :
    ({ synced with
        sync  := { synced.sync with wipePending := some 7, offer := some ⟨1, 2⟩ }
        peers := { synced.peers with presencePending := true } }).choose = some (.wipe 2) := by decide +kernel
/-- R155: a sit-out costs one offer point, here the first: eleven recessive bits after a close (R146). -/
theorem test_sit_out :
    ∃ t, exec (.offerPoint (List.replicate 11 true))
        { synced with
          bus      := { idleBus with recessiveRun := 0 }
          selector := ⟨0, true⟩
          peers    := { synced.peers with presencePending := true } } = .next t ∧
      t.selector.sitOut = false ∧ t.ownInFlight = false ∧ t.bus.recessiveRun = 11 :=
  ⟨_, rfl, by decide +kernel, by decide +kernel, by decide +kernel⟩
/-- R34, R141: a SYNCED station drives both slot bits of a bad frame, and no other bit. -/
theorem test_reject_slot :
    (let s (n : Nat) : State := { synced with bus := (idleBus.follow synced.ear (broken.take (broken.length - n))).getD idleBus }
     [(s 3).mbtx, (s 2).mbtx, (s 1).mbtx, (s 0).mbtx]) = [true, false, false, true] := by decide +kernel
/-- R150: ten recessive bits after the mismatch, here at the bit after the key, a dominant fill bit; none at the ninth. -/
theorem test_fill_bit :
    (let s (n : Nat) : State :=
       { synced with
         bus := ({ idleBus with current := .own ⟨snap 0, 12, some 0, false⟩ }.follow synced.ear (List.replicate n true)).getD idleBus }
     [(s 9).mbtx, (s 10).mbtx]) = [true, false] := by decide +kernel
/-- R149: station 9 loses to station 2 at the third key bit of an UPDATE (07 section 7.7). -/
theorem test_lost_at_third_key_bit :
    ({ idleBus with current := .own ⟨.update 0 .claim 0, 0, none, false⟩ }.follow ⟨9, true, true, 3⟩
      ((sentBits 2 (.update 0 .claim 0)).take 4)).map BusInterface.due = some (some .lostArbitration) := by decide +kernel
/-- R145: eleven recessive bits before the placed end delimiter lose the place; a dominant bit after a bad frame's end does too, one
after an intact frame's end is noise. -/
theorem test_lost_place :
    ((idleBus.follow synced.ear (false :: List.replicate 11 true)).map BusInterface.due
      = some (some (.lostPlace .elevenRecessive))) ∧
    (({ idleBus with recessiveRun := 0, badTail := true }.follow synced.ear [true, false]).map BusInterface.due
      = some (some (.lostPlace .dominantAfterEnd))) ∧
    (({ idleBus with recessiveRun := 0 }.follow synced.ear [true, false]).map BusInterface.due = some none) := by decide +kernel
/-- R147: out of step a dominant bit after ten recessive ones is no start bit; after eleven it is. -/
theorem test_regain :
    ((BusInterface.reset.follow synced.ear (List.replicate 10 true ++ [false])).map BusInterface.due = some none) ∧
    ((BusInterface.reset.follow synced.ear (List.replicate 11 true ++ [false])).map BusInterface.due
      = some (some (.regain .startBit))) := by decide +kernel
/-- R27, R47: a frame whose start bit is read before JOIN has no close after it. -/
theorem test_join_inside_a_frame :
    (let s : State := { upIn .idle with port := { up.port with phase := .idle } }
     match exec (.transactionStart [false, true]) s with
     | .next s₁ =>
       match exec .join s₁ with
       | .next s₂ => decide (s₂.sync.state = .listen) && !s₂.handsClose
       | _ => false
     | _ => false) = true := by decide +kernel
/-- R154: with YIELD_N 4 the fourth bulk frame in a row sets the sit-out flag. -/
theorem test_fourth_win : TransmitSelector.afterOwn ⟨3, false⟩ .update 4 = ⟨0, true⟩ := by decide
/-- R151: the third spoil in a row posts NUMBER_CLASH after the queue's own event. -/
theorem test_third_spoil :
    ({ synced with bus := { synced.bus with spoilStreak := 2 } }.raiseSpoil).port.events = [.numberClash] := by decide
/-- R193: INT# needs the enable and an entry. -/
theorem test_int_needs_enable : { up with port := { up.port with events := [.numberClash] } }.intLow = false := by decide

/-! ### A state for every claim's hypotheses -/

theorem witness_EmptyQueuePassesOneMillisecond :
    State.reset.pending = [] ∧
      { synced with peers := { synced.peers with presenceTimer := some 1 } }.pending = [] := by decide

theorem witness_CommandsAnswerAndKeepStraps : ∀ sn br low, Instr.leave ≠ .hardReset sn br low := by
  intro sn br low h; cases h

theorem witness_PostedEventJoinsTailOrIsCounted :
    ({ up with port := { up.port with events := List.replicate 15 .numberClash } }).port.events.length < 16 ∧
    (let s := { up with port := { up.port with events := List.replicate 16 .numberClash, lost := 254 } }
     s.port.events.length = 16 ∧ s.port.lost < 255) ∧
    (let s := { up with port := { up.port with events := List.replicate 16 .numberClash, lost := 255 } }
     s.port.events.length = 16 ∧ s.port.lost = 255) := by decide

theorem witness_HardResetAndClearTakeResetValues : State.reset.port.starting = true := by decide

theorem witness_HostPortTestsBeforeTheCommand :
    (encodeHostPort .join = some (0x03 :: []) ∧ (0x03 : Byte) ≠ 0x01 ∧
      { up with port := { up.port with starting := true } }.port.phase = .command ∧
      { up with port := { up.port with starting := true } }.port.starting = true) ∧
    (up.hostReady ∧ (0x33 : Byte) ∉ ([0x01, 0x02, 0x03, 0x04, 0x10, 0x11, 0x12, 0x13, 0x14, 0x15, 0x16, 0x17, 0x20, 0x21, 0x22,
      0x30, 0x31, 0x32] : List Byte)) := by decide

theorem witness_TransactionsFrameTheCommands :
    (encodeHostPort .join = some [0x03] ∧ State.reset.port.phase ≠ .command) ∧
    State.reset.port.phase = .idle ∧
    up.port.phase = .command ∧
    ((List.replicate 7 true ≠ [] ∧ (List.replicate 7 true).length < 8) ∧
      ((bytesBits [0x10, 0]).take 15 ≠ [] ∧
        ((bytesBits [0x10, 0]).take 15).length
          < 8 * (1 + operandCount (byteOf (numberOf (((bytesBits [0x10, 0]).take 15).take 8)))))) ∧
    { up with port := { up.port with phase := .result } }.port.phase = .result ∧
    { up with port := { up.port with phase := .ignoring } }.port.phase = .ignoring ∧
    (let s := { up with port := { up.port with phase := .result, result := [0, 7] } }
     s.port.phase = .result ∧ 1 < s.port.result.length ∧ s.port.result.length ≤ 2) := by decide

theorem witness_StatusReturnsAllFields :
    up.port.phase = .command ∧ { up with port := { up.port with starting := true } }.port.phase = .command := by decide

theorem witness_ConfigureTestsInOrderAndStoresAll :
    (synced.hostReady ∧ synced.sync.state ≠ .idle) ∧
    (up.hostReady ∧ up.sync.state = .idle ∧ up.sync.leavePending = false) ∧
    (¬ ConfigOperands.inRangeAt ⟨1, 1, 1, 4, 0, 0, 1, 0⟩ 1 ∧
      ∀ j < 1, ConfigOperands.inRangeAt ⟨1, 1, 1, 4, 0, 0, 1, 0⟩ j) ∧
    (¬ ConfigOperands.inRangeAt ⟨250, 15, 7, 32, 1, 8, 7, 2⟩ 8 ∧
      ∀ j < 8, ConfigOperands.inRangeAt ⟨250, 15, 7, 32, 1, 8, 7, 2⟩ j) ∧
    (∀ k, ConfigOperands.inRangeAt ⟨2, 1, 1, 4, 0, 0, 1, 0⟩ k) ∧
    (∀ k, ConfigOperands.inRangeAt ⟨250, 15, 7, 32, 1, 8, 7, 1⟩ k) := by
  refine ⟨by decide, by decide, ⟨by simp [ConfigOperands.inRangeAt], ?_⟩, ⟨by simp [ConfigOperands.inRangeAt], ?_⟩, ?_, ?_⟩
  · intro j hj; obtain rfl : j = 0 := by omega
    trivial
  · intro j hj
    match j, hj with
    | 0, _ => trivial
    | 1, _ | 2, _ | 3, _ | 4, _ | 5, _ | 6, _ | 7, _ => simp [ConfigOperands.inRangeAt]
  all_goals
    intro k
    match k with
    | 0 => trivial
    | 1 | 2 | 3 | 4 | 5 | 6 | 7 | 8 => simp [ConfigOperands.inRangeAt]
    | _ + 9 => trivial

theorem witness_JoinBeginsSession :
    (State.reset.port.starting = true ∧ { State.reset with port := { State.reset.port with phase := .command } }.port.phase = .command) ∧
    (synced.port.phase = .command ∧ synced.port.starting = false ∧ synced.sync.state ≠ .idle) ∧
    (up.port.phase = .command ∧ up.port.starting = false ∧ up.sync.state = .idle) := by decide

theorem witness_LeaveActsByState :
    (up.hostReady ∧ up.sync.state = .idle) ∧
    (let s := { busy with sync := { busy.sync with leavePending := true } }
     s.hostReady ∧ s.sync.state ≠ .idle ∧ s.sync.leavePending = true) ∧
    (synced.hostReady ∧ synced.sync.state ≠ .idle ∧ synced.sync.leavePending = false ∧ synced.ownInFlight = false) ∧
    (busy.hostReady ∧ busy.sync.state ≠ .idle ∧ busy.sync.leavePending = false ∧ busy.ownInFlight = true) := by decide

theorem witness_LeaveWaitsForTheOwnClose :
    let s := { busy with sync := { busy.sync with leavePending := true } }
    s.sendsFrame [] (ownAtClose queued (.update 7 .claim 255) none false) (taken s) ∧ s.sync.leavePending = true ∧
      (Instr.updateClose [] = if (none : Option Nat).isSome ∨ false then .discardedClose []
        else closeOf (Frame.update 7 .claim 255).kind []) :=
  ⟨⟨State.heard_nil rfl, by decide, rfl⟩, rfl, rfl⟩

theorem witness_SetInterruptsSetsBothEnables :
    up.hostReady ∧ 1 < (2 : Byte).toNat ∧ ((1 : Byte).toNat ≤ 1 ∧ 1 < (2 : Byte).toNat) ∧ (1 : Byte).toNat ≤ 1 := by decide

theorem witness_ReadRecordReturnsRecordAndStanding : up.hostReady ∧ synced.hostReady := by decide

theorem witness_WatchAndUnwatch : up.hostReady := by decide

theorem witness_TakeCompletionRemovesOldest :
    (up.hostReady ∧ up.update.completions = []) ∧
    (busy.hostReady ∧ busy.update.completions = [⟨6, .claim, 1, .applied, some 1, some 5⟩]) := by decide

theorem witness_TakeEventRemovesOldest :
    (up.hostReady ∧ up.port.events = []) ∧
    (let s := { up with port := { up.port with events := [.recordChanged 255 15] } }
     s.hostReady ∧ s.port.events = .recordChanged 255 15 :: []) := by decide

theorem witness_ReadPeerReturnsEntry :
    up.hostReady ∧ 15 < (16 : Byte).toNat ∧ (3 : Byte).toNat = up.straps.number.val ∧
      ((15 : Byte).toNat = (15 : Station).val ∧ (15 : Station) ≠ up.straps.number) := by decide

theorem witness_ChangeCommandsTestThenQueue :
    (up.hostReady ∧ up.sync.state ≠ .synced) ∧
    (synced.hostReady ∧ synced.sync.state = .synced ∧ synced.sync.leavePending = false ∧
      synced.update.outbound.length < 16 ∧ synced.update.outbound.length + synced.update.completions.length < 32) ∧
    (let s := { synced with update := { synced.update with outbound := List.replicate 16 ⟨0, .claim, 0, 0⟩ } }
     s.hostReady ∧ s.sync.state = .synced ∧ s.sync.leavePending = false ∧ 16 ≤ s.update.outbound.length) ∧
    (let s := { synced with update := { synced.update with completions := List.replicate 32 ⟨0, .claim, 0, .applied, none, none⟩ } }
     s.hostReady ∧ s.sync.state = .synced ∧ s.sync.leavePending = false ∧
      32 ≤ s.update.outbound.length + s.update.completions.length) := by decide

theorem witness_WipeCommandSetsWipePending :
    (up.hostReady ∧ up.sync.state ≠ .synced) ∧
    (let s := { synced with sync := { synced.sync with wipePending := some 2 } }
     s.hostReady ∧ s.sync.state = .synced ∧ s.sync.leavePending = false ∧ s.sync.wipePending ≠ none) ∧
    (synced.hostReady ∧ synced.sync.state = .synced ∧ synced.sync.leavePending = false ∧ synced.sync.wipePending = none) := by
  decide

theorem witness_ResumeAndDiscardHeadActOnHeldQueue :
    (synced.hostReady ∧ synced.update.held = false) ∧
    (let s := { synced with update := { synced.update with outbound := [⟨7, .claim, 255, 8⟩], held := true } }
     s.hostReady ∧ s.update.held = true ∧ s.update.outbound = ⟨7, .claim, 255, 8⟩ :: []) := by decide

/-- The levels have this event for a station. -/
theorem hears_event {s : State} {line : Levels} {event : LineEvent}
    (h : (s.bus.follow s.ear line).map BusInterface.due = some (some event)) : s.heard line = some (event, after s line) := by
  cases hb : s.bus.follow s.ear line with
  | none => rw [hb] at h; cases h
  | some b =>
    rw [hb] at h
    exact State.heard_iff.mpr ⟨b, hb, Option.some.inj h, by simp [after, taken, hb]⟩

/-- An offer point of a state with an idle bus. -/
theorem hears_offer_point {s : State} (h : s.bus = idleBus) : s.heard [true] = some (.offerPoint, after s [true]) :=
  hears_event (by rw [h]; rfl)

theorem witness_OfferPointOffersFirstPendingFrame :
    ((upIn .idle).heard [true] = some (.offerPoint, after (upIn .idle) [true]) ∧
      (after (upIn .idle) [true]).sync.state = .idle) ∧
    (let s := { synced with selector := ⟨0, true⟩ }
     s.heard [true] = some (.offerPoint, after s [true]) ∧ (after s [true]).sync.state ≠ .idle ∧
      (after s [true]).selector.sitOut = true) ∧
    (synced.heard [true] = some (.offerPoint, after synced [true]) ∧ (after synced [true]).sync.state ≠ .idle ∧
      (after synced [true]).selector.sitOut = false) :=
  ⟨⟨hears_offer_point rfl, rfl⟩, ⟨hears_offer_point rfl, by decide, rfl⟩, ⟨hears_offer_point rfl, by decide, rfl⟩⟩

/-- The levels have this event for a station, which then still has its own frame `o`. -/
@[irreducible] def ownEvent (s : State) (line : Levels) (event : LineEvent) (o : OwnFrame) : Bool :=
  match s.bus.follow s.ear line with
  | some b => decide (b.due = some event ∧ b.current = .own o)
  | none => false

theorem hears_own_event {s : State} {line : Levels} {event : LineEvent} {o : OwnFrame} (h : ownEvent s line event o = true) :
    s.heard line = some (event, after s line) ∧ (after s line).bus.current = .own o := by
  unfold ownEvent at h
  split at h
  · next b hb =>
    obtain ⟨hd, hc⟩ := of_decide_eq_true h
    exact ⟨State.heard_iff.mpr ⟨b, hb, hd, by simp [after, taken, hb]⟩, by simp [after, taken, hb, hc]⟩
  · cases h

theorem witness_ReadbackMismatchLosesOrSpoils :
    (let s := driving queued (.update 7 .claim 255) 0
     (s.heard [true] = some (.lostArbitration, after s [true]) ∧
      (after s [true]).bus.current = .own ⟨.update 7 .claim 255, 0, none, false⟩) ∧ (after s [true]).sync.leavePending = false) ∧
    (let s := driving { queued with sync := { queued.sync with leavePending := true } } (.update 7 .claim 255) 6
     (s.heard [false] = some (.lostArbitration, after s [false]) ∧
      (after s [false]).bus.current = .own ⟨.update 7 .claim 255, 6, none, false⟩) ∧ (after s [false]).sync.leavePending = true) ∧
    (let s := driving queued (.update 7 .claim 255) 7
     s.heard [true] = some (.spoiled, after s [true]) ∧
      (after s [true]).bus.current = .own ⟨.update 7 .claim 255, 7, none, false⟩) ∧
    ((stuff Run.start (keyBits 3 .update)).length = 6 ∧ 7 < (sentBits 3 (.update 7 .claim 255)).length) :=
  ⟨⟨hears_own_event (by decide +kernel), rfl⟩, ⟨hears_own_event (by decide +kernel), rfl⟩, hears_own_event (by decide +kernel),
    by decide +kernel⟩

theorem witness_PlaceIsLostAndStepRegained :
    (synced.heard (false :: List.replicate 11 true)
        = some (.lostPlace .elevenRecessive, after synced (false :: List.replicate 11 true)) ∧ synced.sync.state = .synced) ∧
    (let s := { upIn .listen with bus := { idleBus with recessiveRun := 10, badTail := true } }
     s.heard [false] = some (.lostPlace .dominantAfterEnd, after s [false]) ∧ (after s [false]).sync.state ≠ .synced) ∧
    (let line := List.replicate 11 true ++ [false]
     up.heard line = some (.regain .startBit, after up line)) ∧
    (up.heard (List.replicate 22 true) = some (.regain .longRun, after up (List.replicate 22 true))) :=
  ⟨⟨hears_event (by decide +kernel), rfl⟩, ⟨hears_event (by decide +kernel), by decide⟩, hears_event (by decide +kernel),
    hears_event (by decide +kernel)⟩

theorem broken_rejected : closesBadly ⟨3, true, true, 3⟩ idleBus broken true true = true := by decide +kernel
theorem broken_kept : closesBadly ⟨3, true, false, 3⟩ idleBus broken true false = true := by decide +kernel
theorem broken_at_budget : closesBadly ⟨3, true, true, 3⟩ { idleBus with rejectStreak := 3 } broken true false = true := by
  decide +kernel

theorem witness_BadFrameIsRejectedOrGivenUp :
    (∃ r, synced.hearsFrame broken r true (after synced broken) ∧ r.bad = true) ∧
    (let s := { synced with bus := { idleBus with rejectStreak := 3 } }
     (∃ r, s.hearsFrame broken r false (after s broken) ∧ r.bad = true) ∧ (after s broken).sync.state = .synced ∧
      (after s broken).bus.rejectStreak = (after s broken).port.inEffect.rejectBudget) ∧
    ((∃ r, (upIn .listen).hearsFrame broken r false (after (upIn .listen) broken) ∧ r.bad = true) ∧
      (after (upIn .listen) broken).sync.state ≠ .synced) :=
  ⟨hears_badly (bad := true) (by decide) broken_rejected,
    ⟨hears_badly (bad := true) (by decide) broken_at_budget, rfl, by decide +kernel⟩,
    ⟨hears_badly (bad := true) (by decide) broken_kept, by decide⟩⟩

/-- An intact frame whose slot was driven. -/
def driven : Levels := lineOf 1 (.evict 4) false true

theorem driven_discarded : closesBadly ⟨3, true, true, 3⟩ idleBus driven false false = true := by decide +kernel

/-- The close of an own frame, spoiled or rejected, with the empty line that is left of it. -/
theorem sends (s : State) (f : Frame) (spoil : Option Nat) (rejected : Bool) (hs : s.sync.state ≠ .idle) :
    (sending s f spoil rejected).sendsFrame [] (ownAtClose s f spoil rejected) (taken (sending s f spoil rejected)) :=
  ⟨State.heard_nil rfl, hs, rfl⟩

theorem witness_DiscardedFrameIsAppliedByNoBlock :
    (∃ r, synced.hearsFrame driven r false (after synced driven) ∧ r.discarded.isSome = true) ∧
    ((sending synced (.evict 4) none true).sendsFrame [] (ownAtClose synced (.evict 4) none true)
        (taken (sending synced (.evict 4) none true)) ∧ synced.sync.leavePending = false) ∧
    ((sending synced (.offer 1 0) (some 4) false).sendsFrame [] (ownAtClose synced (.offer 1 0) (some 4) false)
        (taken (sending synced (.offer 1 0) (some 4) false)) ∧
      (Frame.offer 1 0).kind ≠ .update ∧ (Frame.offer 1 0).kind ≠ .snapshot) :=
  ⟨hears_badly (bad := false) (by decide) driven_discarded, ⟨sends _ _ _ _ (by decide), rfl⟩,
    ⟨sends _ _ _ _ (by decide), by decide⟩⟩

theorem witness_DiscardedUpdateCountsAnAttempt :
    (let s := sending queued (.update 7 .claim 255) none true
     s.sendsFrame [] (ownAtClose queued (.update 7 .claim 255) none true) (taken s) ∧ (taken s).sync.leavePending = false ∧
      (taken s).update.outbound = ⟨7, .claim, 255, 3⟩ :: [] ∧ 3 + 1 < (taken s).port.inEffect.retryLimit) ∧
    (7 + 1 = queued.port.inEffect.retryLimit ∧ queued.port.inEffect.failPolicy = .drop) ∧
    (let p : Params := { queued.port.inEffect with failPolicy := .hold }
     let q : State :=
      { queued with
        update := { queued.update with outbound := [⟨7, .claim, 255, 7⟩] }
        port   := { queued.port with inEffect := p } }
     let s := sending q (.update 7 .claim 255) (some 0) false
     s.sendsFrame [] (ownAtClose q (.update 7 .claim 255) (some 0) false) (taken s) ∧ (taken s).sync.leavePending = false ∧
      (taken s).update.outbound = ⟨7, .claim, 255, 7⟩ :: [] ∧ 7 + 1 = (taken s).port.inEffect.retryLimit ∧
      (taken s).port.inEffect.failPolicy = .hold) :=
  ⟨⟨sends _ _ _ _ (by decide), rfl, rfl, by decide⟩, by decide, ⟨sends _ _ _ _ (by decide), rfl, rfl, rfl, rfl⟩⟩

theorem witness_EvaluationFollowsClaimAndVersion :
    let r : Rec := ⟨⟨0, 0, 0, 0⟩, 4, some 2, none⟩
    (r.claimant ≠ none ∧ r.claimant ≠ some (3 : Station)) ∧
    ((r.claimant = none ∨ r.claimant = some (2 : Station)) ∧ r.version = 4 ∧ r.version ≠ 5) ∧
    Rec.zero.claimant = none ∧ r.claimant = some (2 : Station) := by decide

/-- An UPDATE of station 2 for the last record. -/
def upd : Frame := .update 9 .claim 255

/-- Station 3 SYNCED, as the bus interface sees it. -/
def earSynced : Ear := ⟨3, true, true, 3⟩

theorem upd_reads : reads 2 upd := by decide +kernel
/-- The whole line of it, heard from an idle bus. -/
theorem upd_closes : closesAs earSynced idleBus (wire 2 upd) 2 upd = true := by decide +kernel

theorem witness_UpdateCloseEvaluatesCountsAndSettles :
    (takes (upIn .listen) 2 upd ∧
      (heardBy (upIn .listen) 2 upd).sync.state = .listen) ∧
    (let s := upIn (.syncing .requesting 0 0)
     let u := heardBy s 2 upd
     takes s 2 upd ∧ u.sync.state = .syncing .requesting 0 0 ∧ u.table.covered[15] = false) ∧
    (let t : TableUnit := { synced.table with watch := tab fun _ => true }
     let s := { synced with table := t }
     let u := heardBy s 2 upd
     takes s 2 upd ∧ u.sync.position.origin ≠ none ∧ u.sync.state = .synced ∧
      (evaluate u.table.records[255] 2 .claim).1 = .applied ∧ u.table.watch[255] = true ∧
      u.table.changePending[255] = false ∧ u.port.events.length < 16) ∧
    (let t : TableUnit := { synced.table with watch := tab fun _ => true }
     let s := { synced with table := t, port := { synced.port with events := List.replicate 16 .numberClash } }
     let u := heardBy s 2 upd
     takes s 2 upd ∧ u.sync.position.origin ≠ none ∧ u.sync.state = .synced ∧
      (evaluate u.table.records[255] 2 .claim).1 = .applied ∧ u.table.watch[255] = true ∧
      u.table.changePending[255] = false ∧ u.port.events.length = 16) ∧
    (takes synced 2 upd ∧
      (heardBy synced 2 upd).table.watch[255] = false) ∧
    (busy.takesClose [] true 3 (.update 7 .claim 255) (taken busy) ∧ (taken busy).sync.position.origin ≠ none ∧
      (taken busy).sync.state = .synced ∧ (taken busy).update.outbound = ⟨7, .claim, 255, 3⟩ :: []) :=
  ⟨⟨takes_heard (by decide) upd_reads, rfl⟩, ⟨takes_heard (by decide) upd_reads, rfl, by decide +kernel⟩,
    ⟨takes_heard (by decide) upd_reads, by decide +kernel, rfl, by decide +kernel⟩,
    ⟨takes_heard (by decide) upd_reads, by decide +kernel, rfl, by decide +kernel⟩,
    ⟨takes_heard (by decide) upd_reads, by decide +kernel⟩, ⟨takes_sent (by decide) rfl, by decide⟩⟩

theorem witness_EvictCloseReleasesClaimsAndPeer :
    (takes synced 2 (.evict 3) ∧
      (3 : Station) = (heardBy synced 2 (.evict 3)).straps.number) ∧
    ((sending synced (.evict 15) none false).takesClose [] true 3 (.evict 15) (taken (sending synced (.evict 15) none false)) ∧
      (15 : Station) ≠ (taken (sending synced (.evict 15) none false)).straps.number) :=
  ⟨⟨takes_heard (by decide) (by decide +kernel), rfl⟩, takes_sent (by decide) rfl, by decide⟩

theorem witness_WipeCloseBeginsNewLineage :
    (takes synced 2 (.wipe 0xFFFF) ∧
      (heardBy synced 2 (.wipe 0xFFFF)).sync.state = .synced) ∧
    (let s := upIn (.syncing (.receiving 1) 0 3)
     let u := heardBy s 2 (.wipe 0)
     takes s 2 (.wipe 0) ∧ u.sync.state = .syncing (.receiving 1) 0 3) ∧
    (let u := heardBy (upIn .stranded) 2 (.wipe 0)
     takes (upIn .stranded) 2 (.wipe 0) ∧ u.sync.state = .stranded) :=
  ⟨⟨takes_heard (by decide) (by decide +kernel), rfl⟩, ⟨takes_heard (by decide) (by decide +kernel), rfl⟩,
    ⟨takes_heard (by decide) (by decide +kernel), rfl⟩⟩

/-- A PRESENCE of station 2 that reports `st` and carries count `n` of the lineage of `synced`. -/
def pres (st : Byte) (n : Word) : Frame := .presence st 10 ⟨1, 2, n, 9⟩

/-- A station takes the close of this PRESENCE of station `x`, in its own state. -/
abbrev takesPres (s : State) (x : Station) (st : Byte) (n : Word) : Prop :=
  takes s x (pres st n) ∧
    (heardBy s x (pres st n)).sync.state = s.sync.state

theorem takes_pres {s : State} {x : Station} {st : Byte} {n : Word} (hs : s.sync.state ≠ .idle)
    (h : reads x (pres st n)) : takesPres s x st n := ⟨takes_heard hs h, rfl⟩

theorem witness_PresenceCloseMovesPeerThenController :
    (takesPres synced 2 3 6 ∧ takesPres synced 2 3 5 ∧ takesPres synced 2 3 4 ∧ takesPres synced 2 1 0) ∧
    (takesPres (upIn .listen) 2 3 0 ∧ takesPres (upIn .listen) 2 1 0 ∧ takesPres (upIn .listen) 2 0 0) ∧
    (takesPres (upIn .stranded) 2 3 0 ∧ takesPres (upIn .stranded) 2 1 0 ∧ takesPres (upIn .stranded) 2 0 0) ∧
    takesPres (upIn (.syncing .requesting 0 0)) 2 3 0 ∧
    (2 : Station) ≠ synced.straps.number ∧
    comparePositions ⟨1, 2, 6, 9⟩ ⟨1, 2, 5, 9⟩ = .ahead ∧ comparePositions ⟨1, 2, 4, 9⟩ ⟨1, 2, 5, 9⟩ = .behind ∧
    comparePositions ⟨1, 2, 5, 9⟩ ⟨1, 2, 5, 9⟩ = .equal ∧
    (⟨synced.sync.position.generation, synced.sync.position.origin.getD 0, synced.sync.position.count,
      synced.sync.position.digest⟩ : Carried) = ⟨1, 2, 5, 9⟩ ∧
    ((2 : Station) < up.straps.number ∧ ((1 : Byte) = 1 ∨ (1 : Byte) = 2 ∨ (1 : Byte) = 4)) ∧
    ¬ ((2 : Station) < up.straps.number ∧ ((0 : Byte) = 1 ∨ (0 : Byte) = 2 ∨ (0 : Byte) = 4)) := by
  have h0 : reads 2 (pres 0 0) := by decide +kernel
  have h1 : reads 2 (pres 1 0) := by decide +kernel
  have h3 : reads 2 (pres 3 0) := by decide +kernel
  exact ⟨⟨takes_pres (by decide) (by decide +kernel), takes_pres (by decide) (by decide +kernel),
      takes_pres (by decide) (by decide +kernel), takes_pres (by decide) (by decide +kernel)⟩,
    ⟨takes_pres (by decide) h3, takes_pres (by decide) h1, takes_pres (by decide) h0⟩,
    ⟨takes_pres (by decide) h3, takes_pres (by decide) h1, takes_pres (by decide) h0⟩, takes_pres (by decide) h3,
    by decide +kernel⟩

theorem witness_PresenceUnderOwnNumberChangesNoEntry :
    (sending synced (pres 3 5) none false).takesClose [] true 3 (pres 3 5) (taken (sending synced (pres 3 5) none false)) ∧
    takesPres synced 3 3 6 ∧ takesPres (upIn .listen) 3 3 0 ∧ takesPres (upIn .listen) 3 1 0 ∧ takesPres (upIn .stranded) 3 3 0 ∧
    takesPres (upIn .stranded) 3 1 0 ∧ takesPres (upIn (.syncing .requesting 0 0)) 3 3 0 := by
  have h1 : reads 3 (pres 1 0) := by decide +kernel
  have h3 : reads 3 (pres 3 0) := by decide +kernel
  exact ⟨takes_sent (by decide) rfl, takes_pres (by decide) (by decide +kernel), takes_pres (by decide) h3, takes_pres (by decide) h1,
    takes_pres (by decide) h3, takes_pres (by decide) h1, takes_pres (by decide) h3⟩

theorem witness_SyncRequestCloseSetsOffer :
    (let q : State :=
       { upIn (.syncing .requesting 15 3) with sync := { (upIn (.syncing .requesting 15 3)).sync with syncRequest := true } }
     let s := sending q (.syncRequest 15) none false
     s.takesClose [] true 3 (.syncRequest 15) (taken s) ∧ (taken s).sync.state = .syncing .requesting 15 3 ∧
      (taken s).sync.syncRequest = true) ∧
    (let u := heardBy synced 2 (.syncRequest 0)
     takes synced 2 (.syncRequest 0) ∧ u.sync.state = .synced ∧
      u.port.inEffect.donorEnable = true ∧ u.sync.donor = none ∧ (2 : Station) ≠ u.straps.number) ∧
    (let s := { synced with sync := { synced.sync with donor := some ⟨2, 4, 0⟩ } }
     let u := heardBy s 2 (.syncRequest 0)
     takes s 2 (.syncRequest 0) ∧ u.sync.state = .synced) ∧
    (let u := heardBy (upIn .listen) 2 (.syncRequest 0)
     takes (upIn .listen) 2 (.syncRequest 0) ∧ u.sync.state ≠ .synced) ∧
    (let u := heardBy synced 3 (.syncRequest 0)
     takes synced 3 (.syncRequest 0) ∧ (3 : Station) = u.straps.number) := by
  have h2 : reads 2 (.syncRequest 0) := by decide +kernel
  exact ⟨⟨takes_sent (by decide) rfl, rfl, rfl⟩, ⟨takes_heard (by decide) h2, rfl, rfl, rfl, by decide⟩,
    ⟨takes_heard (by decide) h2, rfl⟩, ⟨takes_heard (by decide) (by decide +kernel), by decide⟩,
    ⟨takes_heard (by decide) (by decide +kernel), rfl⟩⟩

theorem witness_OfferCloseNamesDonor :
    ((sending synced (.offer 2 15) none false).takesClose [] true 3 (.offer 2 15) (taken (sending synced (.offer 2 15) none false)) ∧
      synced.sync.state = .synced) ∧
    (let s := upIn (.syncing .requesting 15 0)
     takes s 1 (.offer 3 15) ∧
      takes s 1 (.offer 3 14) ∧
      s.sync.state = .syncing .requesting 15 0 ∧ (3 : Station) = s.straps.number ∧ (14 : Segment) ≠ 15) ∧
    (takes synced 1 (.offer 3 15)) ∧
    (let u := heardBy (upIn .listen) 1 (.offer 3 15)
     takes (upIn .listen) 1 (.offer 3 15) ∧ u.sync.state = .listen) := by
  have h15 : reads 1 (.offer 3 15) := by decide +kernel
  exact ⟨⟨takes_sent (by decide) rfl, rfl⟩,
    ⟨takes_heard (by decide) h15, takes_heard (by decide) (by decide +kernel), rfl, rfl, by decide⟩,
    takes_heard (by decide) (by decide +kernel), ⟨takes_heard (by decide) h15, rfl⟩⟩

theorem snap_reads_0 : reads 1 (snap 0) := by decide +kernel
theorem snap_reads_15 : reads 1 (snap 15) := by decide +kernel

theorem witness_SnapshotCloseAcceptsNextSegment :
    (let s := upIn (.syncing (.receiving 1) 0 0)
     takes s 1 (snap 0) ∧ s.sync.state = .syncing (.receiving 1) 0 0 ∧
      (3 : Station) = s.straps.number ∧ (1 : Segment).val = (0 : Segment).val + 1) ∧
    (let s := { synced with sync := { synced.sync with state := .syncing (.receiving 1) 15 3 } }
     takes s 1 (snap 15) ∧
      s.sync.state = .syncing (.receiving 1) 15 3 ∧ s.sync.position = ⟨1, some 2, 5, 9⟩ ∧
      ∀ m : Segment, m.val < 15 → s.table.covered[m] = true) ∧
    (let s := upIn (.syncing (.receiving 1) 15 3)
     takes s 1 (snap 15) ∧
      s.sync.state = .syncing (.receiving 1) 15 3 ∧ (15 : Segment).val ≠ 0 ∧ s.sync.position ≠ ⟨1, some 2, 5, 9⟩) ∧
    (let s := upIn (.syncing .requesting 0 0)
     takes s 1 (snap 0) ∧ s.sync.state = .syncing .requesting 0 0) ∧
    (let s := upIn (.syncing (.receiving 1) 14 0)
     takes s 1 (snap 15) ∧
      s.sync.state = .syncing (.receiving 1) 14 0 ∧ (14 : Segment) ≠ 15) ∧
    (takes (upIn .stranded) 1 (snap 0) ∧
      (upIn .stranded).sync.state = .stranded) :=
  ⟨⟨takes_heard (by decide) snap_reads_0, rfl, rfl, rfl⟩, ⟨takes_heard (by decide) snap_reads_15, rfl, rfl, by decide +kernel⟩,
    ⟨takes_heard (by decide) snap_reads_15, rfl, by decide, by decide⟩, ⟨takes_heard (by decide) snap_reads_0, rfl⟩,
    ⟨takes_heard (by decide) snap_reads_15, rfl, by decide⟩, ⟨takes_heard (by decide) snap_reads_0, rfl⟩⟩

theorem witness_DonorSettlesItsSnapshot :
    (let s := sending synced (snap 15) none false
     s.sendsFrame [] (ownAtClose synced (snap 15) none false) (taken s) ∧ (taken s).sync.leavePending = false ∧
      (taken s).sync.state = .synced ∧ (taken s).sync.donor = none) ∧
    (let q : State := { synced with sync := { synced.sync with donor := some ⟨1, 15, 7⟩ } }
     (∀ spoil rejected, (sending q (snap 15) spoil rejected).sendsFrame [] (ownAtClose q (snap 15) spoil rejected)
        (taken (sending q (snap 15) spoil rejected))) ∧
      q.sync.donor = some ⟨1, 15, 7⟩ ∧ (15 : Segment).val = 15 ∧ 7 + 1 = q.port.inEffect.retryLimit) ∧
    (let q : State := { synced with sync := { synced.sync with donor := some ⟨1, 14, 6⟩ } }
     (∀ spoil rejected, (sending q (snap 14) spoil rejected).sendsFrame [] (ownAtClose q (snap 14) spoil rejected)
        (taken (sending q (snap 14) spoil rejected))) ∧
      q.sync.donor = some ⟨1, 14, 6⟩ ∧ (15 : Segment).val = (14 : Segment).val + 1 ∧ 6 + 1 < q.port.inEffect.retryLimit) :=
  ⟨⟨sends _ _ _ _ (by decide), rfl, rfl, rfl⟩, ⟨fun _ _ => sends _ _ _ _ (by decide), rfl, rfl, rfl⟩,
    ⟨fun _ _ => sends _ _ _ _ (by decide), rfl, rfl, by decide⟩⟩

theorem witness_ListenTimerExpiryEndsWindow :
    (let s := { upIn .listen with sync := { (upIn .listen).sync with listenTimer := some 1, lowerHeard := true } }
     s.sync.listenTimer ≠ none ∧ s.sync.state = .listen ∧ (s.sync.evidenceHeard = true ∨ s.sync.lowerHeard = true)) ∧
    (let s := { upIn .stranded with sync := { (upIn .stranded).sync with listenTimer := some 1, evidenceHeard := true } }
     s.sync.listenTimer ≠ none ∧ s.sync.state = .stranded ∧ (s.sync.evidenceHeard = true ∨ s.sync.lowerHeard = true)) ∧
    (let s := { upIn .listen with sync := { (upIn .listen).sync with listenTimer := some 1 } }
     s.sync.listenTimer ≠ none ∧ s.sync.state = .listen ∧ s.sync.evidenceHeard = false ∧ s.sync.lowerHeard = false) := by
  decide

theorem witness_PresenceOfferAndSegmentTimers :
    synced.peers.presenceTimer ≠ none ∧
    (let s := { upIn (.syncing .requesting 15 3) with sync := { (upIn (.syncing .requesting 15 3)).sync with offerTimer := some 1 } }
     s.sync.offerTimer ≠ none ∧ s.sync.state = .syncing .requesting 15 3) ∧
    (let s := { upIn (.syncing (.receiving 1) 15 0) with
        sync := { (upIn (.syncing (.receiving 1) 15 0)).sync with segmentTimer := some 1 } }
     s.sync.segmentTimer ≠ none ∧ s.sync.state = .syncing (.receiving 1) 15 0) := by decide

theorem witness_WatchTimerExpiryFadesPeer :
    (let s := synced.withPeer 15 { Peer.fresh with state := .arriving, watchTimer := some 20 }
     (15 : Station) ≠ s.straps.number ∧ s.peers.entries[15].watchTimer ≠ none ∧ s.peers.entries[15].state = .arriving) ∧
    (let s := synced.withPeer 0 { Peer.fresh with state := .fading, misses := 1, watchTimer := some 20 }
     (0 : Station) ≠ s.straps.number ∧ s.peers.entries[0].watchTimer ≠ none ∧ s.peers.entries[0].state = .fading ∧
      1 + 1 < s.port.inEffect.unlockN) ∧
    (let s := synced.withPeer 0 { Peer.fresh with state := .fading, misses := 2, watchTimer := some 20 }
     (0 : Station) ≠ s.straps.number ∧ s.peers.entries[0].watchTimer ≠ none ∧ s.peers.entries[0].state = .fading ∧
      2 + 1 = s.port.inEffect.unlockN) := by decide +kernel

/-- The own matched close, committed. -/
theorem busy_matches : busy.matchedOwnClose (.updateClose []) (.update 7 .claim 255) :=
  ⟨[], _, _, sends queued (.update 7 .claim 255) none false (by decide), rfl, rfl, rfl⟩

/-- The own spoiled close. -/
theorem spoiled_closes (s : State) (f : Frame) (hs : s.sync.state ≠ .idle) :
    (sending s f (some 0) false).spoiledOwnClose (.discardedClose []) f :=
  ⟨[], _, _, sends s f (some 0) false hs, rfl, rfl, rfl⟩

theorem witness_SpoilStreakRaisesNumberClash :
    (∃ t, exec (.hardReset 3 1 true) busy = .next t) ∧
    ((∃ t, exec .join up = .next t) ∧ up.hostReady ∧ up.sync.state = .idle) ∧
    ((∃ t, exec (.updateClose []) busy = .next t) ∧ busy.matchedOwnClose (.updateClose []) (.update 7 .claim 255)) ∧
    (∀ n : Nat, n = 2 ∨ n = 3 →
      let s := sending { queued with bus := { idleBus with spoilStreak := n } } (.update 7 .claim 255) (some 0) false
      (∃ t, exec (.discardedClose []) s = .next t) ∧ s.spoiledOwnClose (.discardedClose []) (.update 7 .claim 255) ∧
        s.bus.spoilStreak = n ∧ s.sync.leavePending = false) ∧
    ((∃ t, exec .presenceTimer synced = .next t) ∧ (¬ ∃ f, synced.matchedOwnClose .presenceTimer f) ∧
      ¬ ∃ f, synced.spoiledOwnClose .presenceTimer f) := by
  refine ⟨⟨_, rfl⟩, ⟨⟨_, rfl⟩, by decide⟩, ⟨⟨_, rfl⟩, busy_matches⟩, fun n _ => ⟨⟨_, rfl⟩, spoiled_closes _ _ (by simp [queued, synced, upIn]), rfl, rfl⟩,
    ⟨_, rfl⟩, ?_, ?_⟩
  · rintro ⟨f, line, o, u, _, _, _, h⟩
    split at h
    · cases h
    · cases f <;> cases h
  · rintro ⟨f, line, o, u, _, _, _, h⟩; cases h

theorem witness_intactClose : synced.intactClose (.updateClose (wire 2 upd)) := by
  obtain ⟨r, rj, hr, hc⟩ : synced.takesClose (wire 2 upd) false 2 upd _ := takes_received (by decide) upd_closes
  exact ⟨_, r, rj, _, hr, .inl ⟨2, upd, hc, rfl⟩⟩

theorem witness_badFrameCloses : synced.badFrameCloses (.badFrameClose broken) true := by
  obtain ⟨r, hr, hb⟩ := hears_badly (s := synced) (bad := true) (by decide) broken_rejected
  exact ⟨_, r, _, hr, hb, rfl⟩

/-- Station 3 loses at its sixth key bit to station 2, having sent recessive and read dominant. -/
theorem lost :
    (driving queued (.update 7 .claim 255) 6).heard [false]
        = some (.lostArbitration, after (driving queued (.update 7 .claim 255) 6) [false]) ∧
      (after (driving queued (.update 7 .claim 255) 6) [false]).bus.current = .own ⟨.update 7 .claim 255, 6, none, false⟩ :=
  hears_own_event (by decide +kernel)

theorem witness_WinStreakSetsSitOut :
    (busy.matchedOwnClose (.updateClose []) (.update 7 .claim 255) ∧ busy.sync.leavePending = false ∧
      (Frame.update 7 .claim 255).kind = .update ∧ busy.selector.winStreak + 1 < busy.port.inEffect.yieldN) ∧
    (let s := sending { queued with selector := ⟨3, false⟩ } (.update 7 .claim 255) (some 0) false
     s.spoiledOwnClose (.discardedClose []) (.update 7 .claim 255) ∧ s.sync.leavePending = false ∧
      s.selector.winStreak + 1 = s.port.inEffect.yieldN) ∧
    (let p : Params := { queued.port.inEffect with yieldN := 0 }
     let s := sending { queued with port := { queued.port with inEffect := p } } (.update 7 .claim 255) (some 0) false
     s.spoiledOwnClose (.discardedClose []) (.update 7 .claim 255) ∧ s.port.inEffect.yieldN = 0) ∧
    (let s := sending synced (.evict 4) (some 0) false
     s.spoiledOwnClose (.discardedClose []) (.evict 4) ∧ s.sync.leavePending = false ∧ (Frame.evict 4).kind ≠ .update ∧
      (Frame.evict 4).kind ≠ .snapshot) ∧
    (let s := driving queued (.update 7 .claim 255) 6
     ∃ u, s.heard [false] = some (.lostArbitration, u) ∧ ∃ o, u.bus.current = .own o) ∧
    synced.intactClose (.updateClose (wire 2 upd)) ∧ synced.badFrameCloses (.badFrameClose broken) true ∧
    (∃ u, synced.heard (false :: List.replicate 11 true) = some (.lostPlace .elevenRecessive, u)) ∧
    (up.hostReady ∧ up.sync.state = .idle) ∧
    (∃ t, exec .leave synced = .next t ∧ synced.sync.state ≠ .idle ∧ t.sync.state = .idle) ∧
    (let s := { synced with selector := ⟨0, true⟩ }
     ∃ t, exec (.offerPoint [true]) s = .next t ∧ t.selector.sitOut ≠ s.selector.sitOut ∧ t.sync.state ≠ .idle) :=
  ⟨⟨busy_matches, rfl, rfl, by decide⟩, ⟨spoiled_closes _ _ (by decide), rfl, rfl⟩, ⟨spoiled_closes _ _ (by decide), rfl⟩,
    ⟨spoiled_closes _ _ (by decide), rfl, by decide⟩,
    ⟨_, lost.1, _, lost.2⟩,
    witness_intactClose, witness_badFrameCloses, ⟨_, hears_event (by decide +kernel)⟩, by decide, ⟨_, rfl, by decide, rfl⟩,
    ⟨_, rfl, by decide +kernel, by decide +kernel⟩⟩

theorem witness_RejectStreakFollowsItsTable :
    synced.badFrameCloses (.badFrameClose broken) true ∧
    synced.intactClose (.updateClose (wire 2 upd)) ∧
    busy.matchedOwnClose (.updateClose []) (.update 7 .claim 255) ∧
    ((sending queued (.update 7 .claim 255) (some 0) false).spoiledOwnClose (.discardedClose []) (.update 7 .claim 255) ∧
      queued.sync.leavePending = false) ∧
    ((upIn .listen).badFrameCloses (.badFrameClose broken) false ∧
      ∃ t, exec (.badFrameClose broken) (upIn .listen) = .next t ∧ t.sync.state.mode = (upIn .listen).sync.state.mode) ∧
    (∃ t, exec .join up = .next t ∧ t.sync.state.mode ≠ up.sync.state.mode) ∧
    (∃ t, exec .presenceTimer synced = .next t ∧ t.sync.state.mode = synced.sync.state.mode) := by
  refine ⟨witness_badFrameCloses, witness_intactClose, busy_matches, ⟨spoiled_closes _ _ (by decide), rfl⟩,
    ⟨?_, _, rfl, by decide +kernel⟩, ⟨_, rfl, by decide⟩, _, rfl, by decide⟩
  obtain ⟨r, hr, hb⟩ := hears_badly (s := upIn .listen) (bad := true) (by decide) broken_kept
  exact ⟨_, r, _, hr, hb, rfl⟩

/-! ### The invariants hold of a busy station, and it takes a step -/

/-- `busy` with the close of its head's frame at the front of the queue. -/
def closing : State := { busy with pending := [.updateClose []] }

theorem witness_EveryStepKeepsCredit : closing.creditOk ∧ ∃ t, step closing = .next t := ⟨by decide, _, rfl⟩

theorem witness_EveryStepKeepsEventQueue : closing.eventsOk ∧ ∃ t, step closing = .next t := ⟨by decide +kernel, _, rfl⟩

theorem witness_EveryStepKeepsHistory : closing.historyOk ∧ ∃ t, step closing = .next t := by
  refine ⟨?_, _, rfl⟩
  show _ ∧ _
  decide +kernel

theorem closing_roles : closing.RolesOk := by
  constructor <;> first | decide +kernel | skip
  · intro r rj h; cases h
  · intro r cl h; cases h
  · show closing.bus.current ≠ .idle
    decide +kernel

theorem closing_head : closing.headInFlightOk := by
  intro o ticket op index h hf
  cases h
  cases hf
  exact ⟨rfl, rfl, _, _, rfl, rfl, rfl, rfl⟩

theorem witness_EveryStepKeepsRoles : (closing.RolesOk ∧ closing.headInFlightOk) ∧ ∃ t, step closing = .next t :=
  ⟨⟨closing_roles, closing_head⟩, _, rfl⟩

theorem closing_ranges : closing.RangesOk := by
  refine ⟨by decide, by decide, by decide, by decide, by decide, by decide, by decide +kernel, by decide +kernel, by decide +kernel,
    by decide +kernel, ?_, by decide, ?_, ?_, ?_, ?_, ?_⟩
  · intro e rest h; cases h; decide
  · intro d h; cases h
  · intro r cl h; cases h
  · intro o n h hn; cases h; cases hn
  · intro o h; cases h; exact .inr ⟨rfl, rfl⟩
  · intro r cl rj h; cases h

theorem witness_EveryStepKeepsRanges :
    closing.RolesOk ∧ closing.headInFlightOk ∧ closing.RangesOk ∧ ∃ t, step closing = .next t :=
  ⟨closing_roles, closing_head, closing_ranges, _, rfl⟩

/-! ### Rules over all commands: what each premise looks like when it is met -/

/-- `synced` with the last record claimed by station 2. -/
def claimed : State :=
  { synced with table := { synced.table with records := put synced.table.records 255 ⟨⟨1, 2, 3, 4⟩, 7, some 2, some 2⟩ } }

theorem witness_ClaimedRecordChangesOnlyByItsRules :
    claimed.table.records[255].claimant = some 2 ∧
    (∃ t, exec (.wipeClose (wire 1 (.wipe 2))) claimed = .next t ∧
      t.table.records[255].claimant ≠ claimed.table.records[255].claimant ∧
      t.table.records[255].value ≠ claimed.table.records[255].value) :=
  ⟨by decide +kernel, _, rfl, by decide +kernel, by decide +kernel⟩

theorem witness_PositionChangesOnlyByItsRules :
    ∃ t, exec (.updateClose []) busy = .next t ∧ t.sync.position ≠ busy.sync.position := ⟨_, rfl, by decide +kernel⟩

theorem witness_StateChangesArePostedWithTheirCause :
    ∃ t, exec .leave synced = .next t ∧ (∀ sn br low, Instr.leave ≠ .hardReset sn br low) ∧
      t.sync.state.mode ≠ synced.sync.state.mode :=
  ⟨_, rfl, witness_CommandsAnswerAndKeepStraps, by decide⟩

theorem witness_HostSettingsChangeOnlyByTheirCommands :
    (∃ t, exec (.claim 0) synced = .next t ∧ t.update.ticket ≠ synced.update.ticket) ∧
    (∃ t, exec (.setInterrupts 1 1) synced = .next t ∧ t.port.eventEnable ≠ synced.port.eventEnable) ∧
    (∃ t, exec (.configure ⟨2, 1, 1, 4, 0, 0, 1, 0⟩) up = .next t ∧ t.port.stored ≠ up.port.stored) ∧
    (let s := { up with port := { up.port with stored := { up.port.stored with yieldN := 0 } } }
     ∃ t, exec .join s = .next t ∧ t.port.inEffect ≠ s.port.inEffect) ∧
    (∃ t, exec (.watch 255) up = .next t ∧ t.table.watch ≠ up.table.watch) :=
  ⟨⟨_, rfl, by decide⟩, ⟨_, rfl, by decide⟩, ⟨_, rfl, by decide⟩, ⟨_, rfl, by decide⟩, ⟨_, rfl, by decide +kernel⟩⟩

theorem witness_IdleStationAndFrameWithoutCloseChangeNoBlock :
    ((∃ t, exec .leave up = .next t) ∧ up.sync.state = .idle ∧ Instr.leave ≠ .join ∧ Instr.leave ≠ .startUpClearComplete ∧
      ∀ sn br low, Instr.leave ≠ .hardReset sn br low) ∧
    (∀ line ∈ ([wire 2 upd, driven, broken] : List Levels),
      ∃ r rj, (upIn .idle).heard line = some (.close, after (upIn .idle) line) ∧
        (after (upIn .idle) line).bus.current = .receiving r false rj ∧
        (line = broken → r.bad = true) ∧ (line = driven → r.discarded.isSome = true) ∧
        (line = wire 2 upd → r.committed = some (2, upd))) := by
  refine ⟨⟨⟨_, rfl⟩, by decide, by decide, by decide, witness_CommandsAnswerAndKeepStraps⟩, ?_⟩
  have h : ∀ line ∈ ([wire 2 upd, driven, broken] : List Levels),
      ((upIn .idle).bus.follow (upIn .idle).ear line).map BusInterface.due = some (some .close) ∧
        (match (after (upIn .idle) line).bus.current with
         | .receiving r false _ =>
           decide ((line = broken → r.bad = true) ∧ (line = driven → r.discarded.isSome = true) ∧
             (line = wire 2 upd → r.committed = some (2, upd)))
         | _ => false) = true := by decide +kernel
  intro line hl
  obtain ⟨h1, h2⟩ := h line hl
  split at h2
  · next r rj hc => exact ⟨r, rj, hears_event h1, hc, of_decide_eq_true h2⟩
  · cases h2

theorem witness_FoldTellsOrderedFramesApart :
    foldDigest 9 (⟨#[3, 2, 7, 255], rfl⟩ : Vector Byte 4).toList = foldDigest 9 (⟨#[3, 2, 7, 255], rfl⟩ : Vector Byte 4).toList :=
  rfl

theorem witness_LineReadsBackAsSent :
    (List.replicate 1023 (0 : Byte)).length < 1024 ∧ (true = true ∧ true = true) ∧ (false = false ∨ true = false) ∧
    (synced.bus.due = none ∧ synced.bus.current = .idle ∧ synced.bus.inStep = true ∧ 11 ≤ synced.bus.recessiveRun) ∧
    ((driving synced (.evict 4) 0).bus.due = none ∧
      (driving synced (.evict 4) 0).bus.current = .own { frame := .evict 4, position := 0, spoil := none, rejected := false }) ∧
    synced.heard [true] = some (.offerPoint, after synced [true]) := by
  refine ⟨?_, by decide, by decide, by decide, ⟨rfl, rfl⟩, hears_offer_point rfl⟩
  rw [List.length_replicate]
  decide

theorem witness_HostPortBytesNameExactlyTheirCommand :
    encodeHostPort .status = some [0x01] ∧ 7 < 8 * ([0x01] : List Byte).length := by decide

end Sys2Proof.Tests
end

/-! ## The mirror table: the statements about the replica, its coverage, the position and the closes that write them

First the laws: the mirror and what a command can do to it, then the acts of each close as one update. The statements follow at the
end. -/

namespace Sys2Proof.Machine

/-! ### The mirror: what a station holds of the shared history

Coverage, lineage and the records change by few acts, and each of these reads nothing of the station but them, the station state and
the station's own number. So they are followed by themselves, as a `Mirror`: every operation of the model is tied to one act on it,
and `exec_mirror` says once what a command can do to it. -/

/-- The replica with its coverage, the position and the station state (R1, R2, R40, R73). -/
@[ext] structure Mirror where
  records  : Vector Rec 256
  covered  : Vector Bool 16
  position : Position
  state    : StationState

/-- What the station holds of the shared history. -/
def State.mirror (s : State) : Mirror := ⟨s.table.records, s.table.covered, s.sync.position, s.sync.state⟩

@[simp] theorem State.mirror_records (s : State) : s.mirror.records = s.table.records := rfl
@[simp] theorem State.mirror_covered (s : State) : s.mirror.covered = s.table.covered := rfl
@[simp] theorem State.mirror_position (s : State) : s.mirror.position = s.sync.position := rfl
@[simp] theorem State.mirror_state (s : State) : s.mirror.state = s.sync.state := rfl

/-- A request from segment 0 begins: coverage cleared, position dropped (R79). -/
def Mirror.requesting (m : Mirror) : Mirror :=
  { m with covered := tab fun _ => false, position := Position.none, state := .syncing .requesting 0 0 }

/-- STRANDED: coverage cleared, position dropped (R82). -/
def Mirror.stranded (m : Mirror) : Mirror :=
  { m with covered := tab fun _ => false, position := Position.none, state := .stranded }

/-- A failed attempt: a request from `next`, or STRANDED at the fourth (R116). -/
def Mirror.attempted (m : Mirror) (next : Segment) (attempts : Nat) : Mirror :=
  if attempts + 1 < 4 then { m with state := .syncing .requesting next (attempts + 1) } else m.stranded

/-- A joiner that receives from `x` has lost its donor (R114). -/
def Mirror.donorLost (m : Mirror) (x : Station) : Mirror :=
  match m.state with
  | .syncing (.receiving d) next attempts => if d = x then m.attempted next attempts else m
  | _ => m

/-- A new lineage of generation `g` on a zeroed and covered replica (R17, R18, R43). -/
def Mirror.lineage (x : Station) (g : Half) : Mirror :=
  ⟨tab fun _ => Rec.zero, tab fun _ => true, ⟨g, some x, 0, 0⟩, .synced⟩

/-- LISTEN at JOIN: the replica zeroed, none covered, no lineage (R25, R75). -/
def Mirror.joined : Mirror := ⟨tab fun _ => Rec.zero, tab fun _ => false, Position.none, .listen⟩

/-- IDLE, all else as the session left it (R26). -/
def Mirror.left (m : Mirror) : Mirror := { m with state := .idle }

/-- The station evaluates committed changes to record `i` (R5). -/
def Mirror.follows (m : Mirror) (i : Index) : Bool :=
  match m.state with
  | .synced     => true
  | .syncing .. => m.covered[segmentOf i]
  | _           => false

/-- A committed operation evaluated where the record is followed (R5). -/
def Mirror.updated (m : Mirror) (x : Station) (op : Op) (i : Index) : Mirror :=
  if m.follows i then { m with records := put m.records i (evaluate m.records[i] x op).2 } else m

/-- The claims of `z` released in the records followed (R15). -/
def Mirror.released (m : Mirror) (z : Station) : Mirror :=
  { m with records := tab fun i => if m.follows i then releasedRec m.records[i] z else m.records[i] }

/-- An ordered frame counted and folded (R41, R42). -/
def Mirror.counted (m : Mirror) (bytes : List Byte) : Mirror :=
  match m.state with
  | .synced | .syncing .. => if m.position.origin.isSome then { m with position := m.position.advance bytes } else m
  | _ => m

/-- A committed WIPE, by the station state (R17, R90). -/
def Mirror.wiped (m : Mirror) (x : Station) (g : Half) : Mirror :=
  match m.state with
  | .synced | .syncing .. => Mirror.lineage x g
  | _ => m

/-- Another station's PRESENCE: a SYNCED station that is behind, or a STRANDED one that hears a SYNCED peer, begins a request
(R83, R86). -/
def Mirror.weighed (m : Mirror) (r : Option Reported) (c : Carried) : Mirror :=
  match m.state with
  | .synced   => if r = some .synced ∧ comparePositions c m.position.carried = .ahead then m.requesting else m
  | .stranded => if r = some .synced then m.requesting else m
  | _         => m

/-- An OFFER of `x` for `j` from segment `k`, at the station `number` (R101). -/
def Mirror.offered (m : Mirror) (number x j : Station) (k : Segment) : Mirror :=
  match m.state with
  | .syncing .requesting next attempts =>
    if j = number ∧ k = next then { m with state := .syncing (.receiving x) next attempts } else m
  | _ => m

/-- Segment `k` overwritten and covered (R20). -/
def Mirror.overwritten (m : Mirror) (k : Segment) (rs : Vector Rec 16) : Mirror :=
  { m with
    records := tab fun i => if segmentOf i = k then rs[i.val % 16]'(Nat.mod_lt _ (by decide)) else m.records[i]
    covered := put m.covered k true }

/-- After segment `k` the joiner waits for the next one, or is SYNCED once all are covered (R81, R111). -/
def Mirror.advanced (m : Mirror) (d : Station) (k : Segment) (attempts : Nat) : Mirror :=
  if h : k.val < 15 then { m with state := .syncing (.receiving d) ⟨k.val + 1, by omega⟩ attempts }
  else if ∀ j : Segment, m.covered[j] = true then { m with state := .synced } else m

/-- Another station's SNAPSHOT of segment `k` for `j` at a joiner: accepted, restarted or disregarded (R109 to R112). -/
def Mirror.received (m : Mirror) (number x j : Station) (k : Segment) (c : Carried) (rs : Vector Rec 16) : Mirror :=
  match m.state with
  | .syncing (.receiving d) next attempts =>
    if j = number ∧ x = d ∧ k = next then
      if next = 0 then (({ m with position := positionOf c } : Mirror).overwritten k rs).advanced d k attempts
      else if m.position = positionOf c then (m.overwritten k rs).advanced d k attempts
      else ({ m with covered := tab fun _ => false, position := Position.none } : Mirror).attempted 0 attempts
    else m
  | _ => m

/-- The close of a committed frame at the station `number`. -/
def Mirror.close (m : Mirror) (number : Station) (cl : Closing) : Mirror :=
  match cl.frame with
  | .presence state _ c  => if cl.own then m else m.weighed (reportedOf state) c
  | .update ticket op i  => (m.updated cl.sender op i).counted (updateFoldBytes cl.sender ticket i)
  | .wipe g              => m.wiped cl.sender g
  | .evict z             =>
    let m := (m.released z).counted (evictFoldBytes cl.sender z)
    if z = number then m else m.donorLost z
  | .syncRequest _       => m
  | .offer j k           => if cl.own then m else m.offered number cl.sender j k
  | .snapshot j k c rs   => if cl.own then m else m.received number cl.sender j k c rs

/-! ### Operations that keep the mirror -/

/-- Both branches of a choice leave the same mirror. -/
theorem State.mirror_ite {p : Prop} [Decidable p] {a b : State} {m : Mirror} (ha : a.mirror = m) (hb : b.mirror = m) :
    (if p then a else b).mirror = m := by
  split <;> assumption

@[simp] theorem State.post_mirror (s : State) (e : Event) : (s.post e).mirror = s.mirror := rfl
@[simp] theorem State.cancel_mirror (s : State) (r : Result) : (s.cancel r).mirror = s.mirror := rfl
@[simp] theorem State.setPeer_mirror (s : State) (x : Station) (p : Peer) : (s.setPeer x p).mirror = s.mirror := rfl
@[simp] theorem State.mapPeers_mirror (s : State) (f : Peer → Peer) : (s.mapPeers f).mirror = s.mirror := rfl
@[simp] theorem State.frameEnds_mirror (s : State) (bad : Bool) : (s.frameEnds bad).mirror = s.mirror := rfl
@[simp] theorem State.closeMatched_mirror (s : State) (cl : Closing) : (s.closeMatched cl).mirror = s.mirror := rfl
@[simp] theorem State.closeSpoiled_mirror (s : State) (f : Frame) : (s.closeSpoiled f).mirror = s.mirror := rfl
@[simp] theorem State.answer_mirror (s : State) (st : Status) (bytes : List Byte) : (s.answer st bytes).mirror = s.mirror := rfl
@[simp] theorem State.tick_mirror (s : State) : s.tick.mirror = s.mirror := rfl

@[simp] theorem State.noteChange_mirror (s : State) (i : Index) (x : Station) : (s.noteChange i x).mirror = s.mirror := by
  obtain h | ⟨_, _, _, h⟩ | ⟨_, _, _, h⟩ := s.noteChange_cases i x <;> rw [h] <;> rfl

@[simp] theorem State.settleHead_mirror (s : State) (r : Result) (v : Half) : (s.settleHead r v).mirror = s.mirror := by
  unfold State.settleHead; split <;> rfl

@[simp] theorem State.failHead_mirror (s : State) : s.failHead.mirror = s.mirror := by
  unfold State.failHead; split <;> [skip; split <;> [skip; split]] <;> rfl

@[simp] theorem State.endServing_mirror (s : State) (why : EndReason) : (s.endServing why).mirror = s.mirror := by
  unfold State.endServing; split <;> rfl

@[simp] theorem State.hearEvidence_mirror (s : State) : s.hearEvidence.mirror = s.mirror := by
  rw [State.hearEvidence_eq]; split <;> rfl

@[simp] theorem State.setRelation_mirror (s : State) (x : Station) (r : Relation) : (s.setRelation x r).mirror = s.mirror := by
  unfold State.setRelation; split <;> rfl

@[simp] theorem State.hearLower_mirror (s : State) (x : Station) (r : Option Reported) : (s.hearLower x r).mirror = s.mirror := by
  unfold State.hearLower; split <;> rfl

@[simp] theorem State.hearPeer_mirror (s : State) (x : Station) (state interval : Byte) (c : Carried) :
    (s.hearPeer x state interval c).mirror = s.mirror := by
  unfold State.hearPeer; split <;> [skip; (dsimp only; split)] <;> rfl

@[simp] theorem State.requestSent_mirror (s : State) : s.requestSent.mirror = s.mirror := by
  unfold State.requestSent; split <;> [split; skip] <;> rfl

@[simp] theorem State.answerRequest_mirror (s : State) (j : Station) (k : Segment) : (s.answerRequest j k).mirror = s.mirror := by
  unfold State.answerRequest
  refine State.mirror_ite ?_ rfl
  dsimp only
  split
  · next d _ =>
    have h : (if d.joiner = j then s.endServing .reRequested else s).mirror = s.mirror :=
      State.mirror_ite (s.endServing_mirror _) rfl
    exact State.mirror_ite h h
  · exact State.mirror_ite rfl rfl

@[simp] theorem State.beginServing_mirror (s : State) (j : Station) (k : Segment) : (s.beginServing j k).mirror = s.mirror := by
  unfold State.beginServing; split <;> rfl

@[simp] theorem State.withdrawOffer_mirror (s : State) (j : Station) : (s.withdrawOffer j).mirror = s.mirror := by
  unfold State.withdrawOffer; split <;> [split; skip] <;> rfl

@[simp] theorem State.settleSegment_mirror (s : State) : s.settleSegment.mirror = s.mirror := by
  unfold State.settleSegment; split <;> [rfl; (split <;> [rfl; exact s.endServing_mirror _])]

@[simp] theorem State.failSegment_mirror (s : State) : s.failSegment.mirror = s.mirror := by
  unfold State.failSegment; split <;> [rfl; exact State.mirror_ite rfl (s.endServing_mirror _)]

@[simp] theorem State.settleDiscarded_mirror (s : State) (f : Frame) : (s.settleDiscarded f).mirror = s.mirror := by
  cases f <;> simp [State.settleDiscarded]

@[simp] theorem State.raiseSpoil_mirror (s : State) : s.raiseSpoil.mirror = s.mirror := by
  unfold State.raiseSpoil; split <;> [(dsimp only; split); skip] <;> rfl

@[simp] theorem State.drive_mirror (s : State) (f : Frame) : (s.drive f).mirror = s.mirror := by
  cases f <;> rfl

@[simp] theorem State.offer_mirror (s : State) : s.offer.mirror = s.mirror := by
  unfold State.offer
  split <;> [rfl; (split <;> [rfl; (split <;> [exact s.drive_mirror _; rfl])])]

@[simp] theorem State.regain_mirror (s : State) (how : StepGain) : (s.regain how).mirror = s.mirror := by
  cases how <;> rfl

/-! ### Operations that move the mirror -/

@[simp] theorem State.coverAll_mirror (s : State) (b : Bool) :
    (s.coverAll b).mirror = { s.mirror with covered := tab fun _ => b } := rfl
@[simp] theorem State.dropPosition_mirror (s : State) : s.dropPosition.mirror = { s.mirror with position := Position.none } := rfl
@[simp] theorem State.beginRequest_mirror (s : State) : s.beginRequest.mirror = s.mirror.requesting := rfl
@[simp] theorem State.strand_mirror (s : State) : s.strand.mirror = s.mirror.stranded := rfl
@[simp] theorem State.found_mirror (s : State) : s.found.mirror = Mirror.lineage s.number 0 := rfl
@[simp] theorem State.joinSession_mirror (s : State) : s.joinSession.mirror = Mirror.joined := rfl
@[simp] theorem State.takeWipe_mirror (s : State) (x : Station) (g : Half) :
    (s.takeWipe x g).mirror = { Mirror.lineage x g with state := s.sync.state } := rfl
@[simp] theorem State.becomeSynced_mirror (s : State) : s.becomeSynced.mirror = { s.mirror with state := .synced } := rfl
@[simp] theorem State.overwriteSegment_mirror (s : State) (k : Segment) (rs : Vector Rec 16) :
    (s.overwriteSegment k rs).mirror = s.mirror.overwritten k rs := rfl

@[simp] theorem State.leaveSynced_mirror (s : State) (cause : Cause) : (s.leaveSynced cause).mirror = s.mirror.requesting := by
  rw [State.leaveSynced_eq, State.outOfSynced, State.postAll_eq]; rfl

@[simp] theorem State.goIdle_mirror (s : State) : s.goIdle.mirror = s.mirror.left := by
  rw [State.goIdle_eq, State.nowIdle, State.postAll_eq]; rfl

@[simp] theorem State.retry_mirror (s : State) (next : Segment) (attempts : Nat) :
    (s.retry next attempts).mirror = s.mirror.attempted next attempts :=
  apply_ite State.mirror _ _ _

@[simp] theorem State.follows_mirror (s : State) (i : Index) : s.mirror.follows i = s.follows i := rfl

@[simp] theorem State.releaseClaims_mirror (s : State) (z : Station) : (s.releaseClaims z).mirror = s.mirror.released z := rfl

@[simp] theorem State.countFrame_mirror (s : State) (bytes : List Byte) :
    (s.countFrame bytes).mirror = s.mirror.counted bytes := by
  unfold State.countFrame Mirror.counted
  cases h : s.sync.state <;> simp only [State.mirror, h] <;> split <;> simp [h]

/-- The transfers with `x` end: a joiner that receives from it has lost its donor (R114). -/
theorem State.loseTransfers_mirror (s : State) (x : Station) : (s.loseTransfers x).mirror = s.mirror.donorLost x := by
  have donorSide : ∀ t : State, t.mirror = s.mirror →
      (match t.sync.state with
       | .syncing (.receiving d) next attempts =>
         if d = x then (t.post (.transferRestart .donorLost)).retry next attempts else t
       | _ => t).mirror = s.mirror.donorLost x := by
    intro t ht
    rw [← ht, Mirror.donorLost]
    cases h : t.sync.state with
    | syncing sub next attempts =>
      cases sub with
      | requesting => simp [h]
      | receiving d => simp only [State.mirror_state, h]; split <;> simp
    | _ => simp [h]
  unfold State.loseTransfers
  refine donorSide _ ?_
  split
  · exact State.mirror_ite (s.endServing_mirror _) rfl
  · rfl

/-! ### A frame of a kind -/

theorem Frame.eq_update {f : Frame} (h : f.kind = .update) : ∃ ticket op i, f = .update ticket op i := by
  cases f <;> cases h; exact ⟨_, _, _, rfl⟩

theorem Frame.eq_evict {f : Frame} (h : f.kind = .evict) : ∃ z, f = .evict z := by
  cases f <;> cases h; exact ⟨_, rfl⟩

theorem Frame.eq_wipe {f : Frame} (h : f.kind = .wipe) : ∃ g, f = .wipe g := by
  cases f <;> cases h; exact ⟨_, rfl⟩

theorem Frame.eq_presence {f : Frame} (h : f.kind = .presence) : ∃ state interval c, f = .presence state interval c := by
  cases f <;> cases h; exact ⟨_, _, _, rfl⟩

theorem Frame.eq_syncRequest {f : Frame} (h : f.kind = .syncRequest) : ∃ k, f = .syncRequest k := by
  cases f <;> cases h; exact ⟨_, rfl⟩

theorem Frame.eq_offer {f : Frame} (h : f.kind = .offer) : ∃ j k, f = .offer j k := by
  cases f <;> cases h; exact ⟨_, _, rfl⟩

theorem Frame.eq_snapshot {f : Frame} (h : f.kind = .snapshot) : ∃ j k c rs, f = .snapshot j k c rs := by
  cases f <;> cases h; exact ⟨_, _, _, _, rfl⟩

/-! ### The acts of a close, on the mirror -/

@[simp] theorem State.applyEvaluation_none_mirror (s : State) (cl : Closing) (i : Index) :
    (s.applyEvaluation cl i none).mirror = s.mirror := rfl

@[simp] theorem State.applyEvaluation_some_mirror (s : State) (cl : Closing) (i : Index) (out : Result × Rec) :
    (s.applyEvaluation cl i (some out)).mirror = { s.mirror with records := put s.table.records i out.2 } :=
  State.mirror_ite (State.noteChange_mirror _ _ _) rfl

@[simp] theorem State.settleEvaluation_mirror (s : State) (cl : Closing) (out : Option (Result × Rec)) :
    (s.settleEvaluation cl out).mirror = s.mirror := by
  unfold State.settleEvaluation
  split
  · rfl
  · exact State.mirror_ite (s.settleHead_mirror _ _) rfl

/-- Noting evidence leaves the replica. -/
@[simp] theorem State.hearEvidence_table (s : State) : s.hearEvidence.table = s.table := by
  rw [State.hearEvidence_eq]; split <;> rfl

@[simp] theorem State.hearEvidence_straps (s : State) : s.hearEvidence.straps = s.straps := by
  rw [State.hearEvidence_eq]; split <;> rfl

@[simp] theorem State.countFrame_straps (s : State) (bytes : List Byte) : (s.countFrame bytes).straps = s.straps := by
  unfold State.countFrame; split <;> [split; split; skip] <;> rfl

theorem actUpdate_mirror (cl : Closing) (s : State) (h : cl.frame.kind = .update) :
    (actUpdate cl s).mirror = s.mirror.close s.number cl := by
  obtain ⟨x, own, f⟩ := cl
  obtain ⟨ticket, op, i, rfl⟩ := Frame.eq_update h
  by_cases hf : s.follows i <;> simp [actUpdate, Mirror.close, Mirror.updated, State.evaluation, hf]

theorem actEvict_mirror (cl : Closing) (s : State) (h : cl.frame.kind = .evict) :
    (actEvict cl s).mirror = s.mirror.close s.number cl := by
  obtain ⟨x, own, f⟩ := cl
  obtain ⟨z, rfl⟩ := Frame.eq_evict h
  have hn : ((s.hearEvidence.releaseClaims z).countFrame (evictFoldBytes x z)).number = s.number := by
    simp [State.number]
  simp only [actEvict, State.evictPeer, Mirror.close, hn]
  split <;> simp [State.loseTransfers_mirror]

theorem actWipe_mirror (cl : Closing) (s : State) (h : cl.frame.kind = .wipe) :
    (actWipe cl s).mirror = s.mirror.close s.number cl := by
  obtain ⟨x, own, f⟩ := cl
  obtain ⟨g, rfl⟩ := Frame.eq_wipe h
  simp only [actWipe, Mirror.close, Mirror.wiped]
  cases h : s.sync.state <;> simp [h, Mirror.lineage]

theorem State.compareWith_mirror (s : State) (x : Station) (c : Carried) :
    (s.compareWith x c).mirror =
      if comparePositions c s.sync.position.carried = .ahead then s.mirror.requesting else s.mirror := by
  unfold State.compareWith
  cases h : comparePositions c s.sync.position.carried <;> simp

theorem State.weighPresence_mirror (s : State) (x : Station) (r : Option Reported) (c : Carried) :
    (s.weighPresence x r c).mirror = s.mirror.weighed r c := by
  unfold State.weighPresence Mirror.weighed
  by_cases hr : r = some .synced <;> cases h : s.sync.state <;> simp [hr, h, State.compareWith_mirror]

theorem actPresence_mirror (cl : Closing) (s : State) (h : cl.frame.kind = .presence) :
    (actPresence cl s).mirror = s.mirror.close s.number cl := by
  obtain ⟨x, own, f⟩ := cl
  obtain ⟨state, interval, c, rfl⟩ := Frame.eq_presence h
  cases own with
  | true => rfl
  | false => simp [actPresence, Mirror.close, State.weighPresence_mirror]

theorem actSyncRequest_mirror (cl : Closing) (s : State) (h : cl.frame.kind = .syncRequest) :
    (actSyncRequest cl s).mirror = s.mirror.close s.number cl := by
  obtain ⟨x, own, f⟩ := cl
  obtain ⟨k, rfl⟩ := Frame.eq_syncRequest h
  cases own <;> simp [actSyncRequest, Mirror.close]

theorem State.takeOffer_mirror (s : State) (x j : Station) (k : Segment) :
    (s.takeOffer x j k).mirror = s.mirror.offered s.number x j k := by
  unfold State.takeOffer Mirror.offered
  cases h : s.sync.state with
  | syncing sub next attempts =>
    cases sub with
    | requesting => simp only [State.mirror_state, h]; split <;> rfl
    | receiving d => simp [h]
  | _ => simp [h]

theorem actOffer_mirror (cl : Closing) (s : State) (h : cl.frame.kind = .offer) :
    (actOffer cl s).mirror = s.mirror.close s.number cl := by
  obtain ⟨x, own, f⟩ := cl
  obtain ⟨j, k, rfl⟩ := Frame.eq_offer h
  have hn : (s.hearEvidence.withdrawOffer j).number = s.number := by
    unfold State.withdrawOffer State.number
    split <;> [split; skip] <;> simp
  cases own <;> simp [actOffer, Mirror.close, State.takeOffer_mirror, hn]

theorem State.acceptSegment_mirror (s : State) (d : Station) (k : Segment) (rs : Vector Rec 16) (attempts : Nat) :
    (s.acceptSegment d k rs attempts).mirror = (s.mirror.overwritten k rs).advanced d k attempts := by
  have hall : (s.overwriteSegment k rs).allCovered = true ↔ ∀ j : Segment, (s.mirror.overwritten k rs).covered[j] = true := by
    simp [State.allCovered, ← State.overwriteSegment_mirror]
  unfold State.acceptSegment Mirror.advanced
  dsimp only
  split
  · rfl
  · split
    · next h => rw [if_pos (hall.mp h)]; rfl
    · next h => rw [if_neg (mt hall.mpr h)]; rfl

theorem State.receiveSegment_mirror (s : State) (x j : Station) (k : Segment) (c : Carried) (rs : Vector Rec 16) :
    (s.receiveSegment x j k c rs).mirror = s.mirror.received s.number x j k c rs := by
  unfold State.receiveSegment Mirror.received
  cases h : s.sync.state with
  | syncing sub next attempts =>
    cases sub with
    | requesting => simp [h]
    | receiving d =>
      simp only [State.mirror_state, h]
      split <;> [split <;> [skip; split]; skip]
      · rw [State.acceptSegment_mirror]; rfl
      · next hp => simp [hp, State.acceptSegment_mirror]
      · next hp => simp [hp, State.restartTransfer, h]
      · rfl
  | _ => simp [h]

theorem actSnapshot_mirror (cl : Closing) (s : State) (h : cl.frame.kind = .snapshot) :
    (actSnapshot cl s).mirror = s.mirror.close s.number cl := by
  obtain ⟨x, own, f⟩ := cl
  obtain ⟨j, k, c, rs, rfl⟩ := Frame.eq_snapshot h
  cases own <;> simp [actSnapshot, Mirror.close, State.receiveSegment_mirror, State.number]

/-! ### What a run of levels leaves as it stands -/

/-- The levels move the bus interface alone. -/
theorem State.heard_keeps {s u : State} {line : Levels} {event : LineEvent} (h : s.heard line = some (event, u)) :
    u = { s with bus := u.bus } := by
  obtain ⟨bus, _, _, rfl⟩ := State.heard_iff.mp h
  rfl

theorem State.withBus_mirror (s : State) (bus : BusInterface) : ({ s with bus := bus } : State).mirror = s.mirror := rfl

/-- The levels of the line leave the replica, the position and the station state. -/
theorem State.heard_mirror {s u : State} {line : Levels} {event : LineEvent} (h : s.heard line = some (event, u)) :
    u.mirror = s.mirror := by
  rw [State.heard_keeps h, State.withBus_mirror]

theorem State.heard_state {s u : State} {line : Levels} {event : LineEvent} (h : s.heard line = some (event, u)) :
    u.sync.state = s.sync.state := by
  rw [State.heard_keeps h]

theorem State.heard_number {s u : State} {line : Levels} {event : LineEvent} (h : s.heard line = some (event, u)) :
    u.number = s.number := by
  rw [State.heard_keeps h]; rfl

/-- What closes has been heard to its last slot bit. -/
theorem State.closing_heard {s u : State} {line : Levels} {e : Ending} (h : s.closing line = some (e, u)) :
    s.heard line = some (.close, u) ∧ u.bus.current.ending u.number = some e := by
  unfold State.closing at h
  split at h
  · next v hv =>
    obtain ⟨e', he, heu⟩ := Option.map_eq_some_iff.mp h
    cases heu
    exact ⟨hv, he⟩
  · cases h

/-- A frame that ends as committed is what the levels carry. -/
theorem State.closing_committed {s u : State} {line : Levels} {cl : Closing} (h : s.closing line = some (.committed cl, u)) :
    s.carries line cl.own cl.sender cl.frame := by
  obtain ⟨hu, he⟩ := State.closing_heard h
  refine ⟨u, hu, ?_⟩
  unfold Current.ending at he
  split at he
  · cases he
  · next r closes rejecting hc =>
    split at he
    · next x f hi =>
      cases he
      exact ⟨r, closes, rejecting, hc, (r.committed_iff x f).mpr hi⟩
    · cases he
    · cases he
  · next o hc =>
    split at he
    · cases he
    · next hs =>
      split at he
      · cases he
      · next hr =>
        cases he
        exact ⟨o, hc, rfl, by simpa using hs, by simpa using hr, rfl⟩

/-- A frame that has a close here closes at a station out of IDLE (R27). -/
theorem State.handsClose_state {s : State} (h : s.handsClose = true) : s.sync.state ≠ .idle :=
  of_decide_eq_true ((Bool.and_eq_true _ _).mp h).1

/-- A deferred leave follows an own close, or nothing does (R93). -/
theorem State.afterOwnClose_mirror (s : State) (own : Bool) :
    (s.afterOwnClose own).mirror = s.mirror ∨ (s.afterOwnClose own).mirror = s.mirror.left := by
  unfold State.afterOwnClose
  split
  · exact .inr s.goIdle_mirror
  · exact .inl rfl

/-- The close of a committed frame of kind `k`: the levels bring none about, or the frame has no close here and only ends, or the
acts run and a deferred leave may follow. -/
theorem State.closeCommitted_cases (s : State) (line : Levels) (k : Kind) (act : Closing → State → State) :
    s.closeCommitted line k act = s ∨
    ∃ cl u, s.closing line = some (.committed cl, u) ∧ cl.frame.kind = k ∧
      ((u.handsClose = false ∧ s.closeCommitted line k act = u.frameEnds false) ∨
        (u.handsClose = true ∧ s.closeCommitted line k act = (act cl (u.closeMatched cl)).afterOwnClose cl.own)) := by
  unfold State.closeCommitted
  split
  · next cl u h =>
    split
    · next hk =>
      refine .inr ⟨cl, u, h, hk, ?_⟩
      split
      · next hc => exact .inr ⟨hc, rfl⟩
      · next hc => exact .inl ⟨by simpa using hc, rfl⟩
    · exact .inl rfl
  · exact .inl rfl

/-! ### What a command can do to the mirror -/

/-- The moves of the mirror: what each command can do to the replica, its coverage, the position and the station state. -/
inductive State.MirrorMove (s : State) : Instr → Mirror → Prop
  | kept {c : Instr} : s.MirrorMove c s.mirror
  | left {c : Instr} : s.MirrorMove c s.mirror.left
  | reset {sn : BitVec 4} {br : BitVec 2} {low : Bool} :
      s.MirrorMove (.hardReset sn br low) ⟨s.table.records, tab fun _ => false, Position.none, .idle⟩
  | cleared : s.MirrorMove .startUpClearComplete { s.mirror with records := tab fun _ => Rec.zero }
  | joined : s.MirrorMove .join Mirror.joined
  | closed {line : Levels} {cl : Closing} (carried : s.carries line cl.own cl.sender cl.frame)
      (takesPart : s.sync.state ≠ .idle) :
      s.MirrorMove (closeOf cl.frame.kind line) (s.mirror.close s.number cl)
  | closedAndLeft {line : Levels} {cl : Closing} (carried : s.carries line cl.own cl.sender cl.frame)
      (takesPart : s.sync.state ≠ .idle) : s.MirrorMove (closeOf cl.frame.kind line) (s.mirror.close s.number cl).left
  | missedFrame {c : Instr} {line : Levels} (loss : c = .lostPlace line ∨ c = .badFrameClose line)
      (synced : s.sync.state = .synced) :
      s.MirrorMove c s.mirror.requesting
  | listened (listening : s.sync.state = .listen) : s.MirrorMove .listenTimerExpiry s.mirror.requesting
  | founded (listening : s.sync.state.listens = true) : s.MirrorMove .listenTimerExpiry (Mirror.lineage s.number 0)
  | attempted {c : Instr} {sub : SubState} {next : Segment} {attempts : Nat}
      (expiry : c = .offerTimerExpiry ∨ c = .segmentTimerExpiry ∨ ∃ x, c = .watchTimerExpiry x)
      (syncing : s.sync.state = .syncing sub next attempts) : s.MirrorMove c (s.mirror.attempted next attempts)

theorem State.MirrorMove.of_eq {s : State} {c : Instr} {m : Mirror} (h : m = s.mirror) : s.MirrorMove c m := h ▸ .kept

theorem State.MirrorMove.ite {s a b : State} {c : Instr} {p : Prop} [Decidable p] (ha : s.MirrorMove c a.mirror)
    (hb : s.MirrorMove c b.mirror) : s.MirrorMove c (if p then a else b).mirror := by
  split <;> assumption

/-- The acts of a close move the mirror as its frame says, so the command of the close does. -/
theorem State.closeCommitted_move (s : State) (line : Levels) (k : Kind) (act : Closing → State → State)
    (hact : ∀ cl u, cl.frame.kind = k → (act cl u).mirror = u.mirror.close u.number cl) :
    s.MirrorMove (closeOf k line) (s.closeCommitted line k act).mirror := by
  obtain h | ⟨cl, u, hcl, rfl, ⟨_, h⟩ | ⟨hc, h⟩⟩ := s.closeCommitted_cases line k act
  · rw [h]; exact .kept
  · rw [h]; exact .of_eq ((u.frameEnds_mirror false).trans (State.heard_mirror (State.closing_heard hcl).1))
  · have hm : u.mirror = s.mirror := State.heard_mirror (State.closing_heard hcl).1
    have hn : u.number = s.number := State.heard_number (State.closing_heard hcl).1
    have hs : s.sync.state ≠ .idle := by
      rw [← State.heard_state (State.closing_heard hcl).1]
      exact State.handsClose_state hc
    have moved : (act cl (u.closeMatched cl)).mirror = s.mirror.close s.number cl := by
      rw [hact cl _ rfl, State.closeMatched_mirror, hm]
      show s.mirror.close u.number cl = _
      rw [hn]
    rw [h]
    obtain h | h := (act cl (u.closeMatched cl)).afterOwnClose_mirror cl.own <;> rw [h, moved]
    · exact .closed (State.closing_committed hcl) hs
    · exact .closedAndLeft (State.closing_committed hcl) hs

/-- A host command moves the mirror only as its own action does. -/
theorem State.takeCommand_move {s : State} {c : Instr} {act : State → Reply} (n : Nat)
    (h : s.MirrorMove c (act s).state.mirror) : s.MirrorMove c (s.takeCommand n act).mirror := by
  unfold State.takeCommand
  split
  · dsimp only
    split
    · exact .kept
    · exact h
  · exact .kept

/-! ### The replies and the line, on the mirror -/

theorem changeReply_mirror (op : Op) (i : Index) (s : State) : (changeReply op i s).state.mirror = s.mirror := by
  unfold changeReply; split <;> [skip; split <;> [skip; split]] <;> rfl

theorem configureReply_mirror (o : ConfigOperands) (s : State) : (configureReply o s).state.mirror = s.mirror := by
  unfold configureReply; split <;> [skip; split] <;> rfl

theorem wipeReply_mirror (s : State) : (wipeReply s).state.mirror = s.mirror := by
  unfold wipeReply; split <;> [skip; split] <;> rfl

theorem resumeReply_mirror (s : State) : (resumeReply s).state.mirror = s.mirror := by
  unfold resumeReply; split <;> rfl

theorem discardHeadReply_mirror (s : State) : (discardHeadReply s).state.mirror = s.mirror := by
  unfold discardHeadReply; split <;> rfl

theorem takeCompletionReply_mirror (s : State) : (takeCompletionReply s).state.mirror = s.mirror := by
  unfold takeCompletionReply; split <;> rfl

theorem takeEventReply_mirror (s : State) : (takeEventReply s).state.mirror = s.mirror := by
  unfold takeEventReply State.dropEvent; split <;> [skip; (dsimp only; split)] <;> rfl

theorem readPeerReply_mirror (number : Byte) (s : State) : (readPeerReply number s).state.mirror = s.mirror := by
  unfold readPeerReply; split <;> rfl

theorem setInterruptsReply_mirror (events completions : Byte) (s : State) :
    (setInterruptsReply events completions s).state.mirror = s.mirror := by
  unfold setInterruptsReply; split <;> [skip; split] <;> rfl

theorem joinReply_move (s : State) : s.MirrorMove .join (joinReply s).state.mirror := by
  unfold joinReply
  split
  · exact .kept
  · exact .joined

theorem leaveReply_move (s : State) : s.MirrorMove .leave (leaveReply s).state.mirror := by
  unfold leaveReply
  split <;> [skip; split <;> [skip; split]]
  · exact .kept
  · exact .kept
  · exact .kept
  · rw [State.goIdle_mirror]; exact .left

theorem State.losePlace_mirror (s : State) (how : PlaceLoss) :
    (s.losePlace how).mirror = if s.sync.state = .synced then s.mirror.requesting else s.mirror := by
  unfold State.losePlace
  dsimp only
  split
  · exact State.leaveSynced_mirror _ _
  · rfl

theorem State.badClose_mirror (s : State) (rejecting : Bool) :
    (s.badClose rejecting).mirror = s.mirror ∨
      s.sync.state = .synced ∧ (s.badClose rejecting).mirror = s.mirror.requesting := by
  unfold State.badClose
  dsimp only
  split
  · exact .inl rfl
  · split
    · next h => exact .inr ⟨h.1, State.leaveSynced_mirror _ _⟩
    · exact .inl rfl

theorem State.spoiledClose_mirror (s : State) (f : Frame) : (s.spoiledClose f).mirror = s.mirror := by
  simp [State.spoiledClose]

theorem State.rejectedClose_mirror (s : State) (cl : Closing) : (s.rejectedClose cl).mirror = s.mirror :=
  State.mirror_ite (by simp) (s.closeMatched_mirror cl)

theorem State.endListenWindow_move (s : State) : s.MirrorMove .listenTimerExpiry s.endListenWindow.mirror := by
  have founds (h : s.sync.state.listens = true) : s.MirrorMove .listenTimerExpiry s.found.mirror := by
    rw [State.found_mirror]; exact .founded h
  unfold State.endListenWindow
  cases h : s.sync.state with
  | listen =>
    dsimp only
    split
    · rw [State.post_mirror, State.beginRequest_mirror]; exact .listened h
    · exact founds (by rw [h]; rfl)
  | stranded =>
    dsimp only
    split
    · exact .kept
    · exact founds (by rw [h]; rfl)
  | _ => exact .kept

theorem State.loseTransfers_move (s : State) (x y : Station) :
    s.MirrorMove (.watchTimerExpiry y) (s.loseTransfers x).mirror := by
  rw [State.loseTransfers_mirror, Mirror.donorLost]
  split
  · next d next attempts h =>
    split
    · exact .attempted (.inr (.inr ⟨y, rfl⟩)) h
    · exact .kept
  · exact .kept

/-- A watch timer's expiry moves the mirror only where the peer lost is the donor (R114, R130). -/
theorem State.expireWatch_move (s : State) (x : Station) : s.MirrorMove (.watchTimerExpiry x) (s.expireWatch x).mirror := by
  have lost : ∀ t : State, t.mirror = s.mirror → s.MirrorMove (.watchTimerExpiry x) (t.loseTransfers x).mirror := by
    intro t ht
    have h := s.loseTransfers_move x x
    rwa [State.loseTransfers_mirror, ← ht, ← State.loseTransfers_mirror] at h
  have missed : ∀ misses, s.MirrorMove (.watchTimerExpiry x) (s.missPeer x misses).mirror := by
    intro misses
    unfold State.missPeer State.dropPeer
    split
    · exact .kept
    · exact lost _ rfl
  unfold State.expireWatch
  split
  · exact .kept
  · exact lost _ rfl
  · exact missed _
  · exact missed _

/-- Everything a command can do to the replica, its coverage, the position and the station state. -/
theorem exec_mirror {c : Instr} {s t : State} (h : exec c s = .next t) : s.MirrorMove c t.mirror := by
  cases c <;> obtain rfl := Host.Outcome.next.inj h
  case hardReset => exact .reset
  case startUpClearComplete => exact .ite .cleared .kept
  case transactionStart => exact .ite .kept .kept
  case transactionTruncated => split <;> [exact .ite .kept .kept; exact .kept; exact .kept]
  case transactionEnd => split <;> exact .kept
  case status => exact .ite .kept .kept
  case configure => exact State.takeCommand_move _ (.of_eq (configureReply_mirror ..))
  case join => exact State.takeCommand_move _ (joinReply_move s)
  case leave => exact State.takeCommand_move _ (leaveReply_move s)
  case readRecord => exact State.takeCommand_move _ .kept
  case write => exact State.takeCommand_move _ (.of_eq (changeReply_mirror ..))
  case cswap => exact State.takeCommand_move _ (.of_eq (changeReply_mirror ..))
  case claim => exact State.takeCommand_move _ (.of_eq (changeReply_mirror ..))
  case release => exact State.takeCommand_move _ (.of_eq (changeReply_mirror ..))
  case wipe => exact State.takeCommand_move _ (.of_eq (wipeReply_mirror s))
  case resume => exact State.takeCommand_move _ (.of_eq (resumeReply_mirror s))
  case discardHead => exact State.takeCommand_move _ (.of_eq (discardHeadReply_mirror s))
  case takeCompletion => exact State.takeCommand_move _ (.of_eq (takeCompletionReply_mirror s))
  case takeEvent => exact State.takeCommand_move _ (.of_eq (takeEventReply_mirror s))
  case readPeer => exact State.takeCommand_move _ (.of_eq (readPeerReply_mirror ..))
  case watch => exact State.takeCommand_move _ .kept
  case unwatch => exact State.takeCommand_move _ .kept
  case setInterrupts => exact State.takeCommand_move _ (.of_eq (setInterruptsReply_mirror ..))
  case badCommand => exact .ite .kept (State.takeCommand_move _ .kept)
  case offerPoint =>
    split
    · next u hu => exact .of_eq (u.offer_mirror.trans (State.heard_mirror hu))
    · exact .kept
  case lostArbitration =>
    split
    · next u hu =>
      split
      · have hm := State.heard_mirror hu
        refine .ite ?_ (.of_eq hm)
        rw [State.goIdle_mirror]
        exact (congrArg Mirror.left hm) ▸ .left
      · exact .kept
    · exact .kept
  case spoiledFrame =>
    split
    · next u hu =>
      split
      · exact .of_eq ((State.withBus_mirror u _).trans (State.heard_mirror hu))
      · exact .kept
    · exact .kept
  case lostPlace =>
    split
    · next how u hu =>
      rw [State.losePlace_mirror, State.heard_mirror hu, State.heard_state hu]
      split
      · next hs => exact .missedFrame (.inl rfl) hs
      · exact .kept
    · exact .kept
  case regainStep =>
    split
    · next how u hu => exact .of_eq ((u.regain_mirror how).trans (State.heard_mirror hu))
    · exact .kept
  case badFrameClose =>
    split
    · next rejecting u hcl =>
      have hu := (State.closing_heard hcl).1
      have hm := State.heard_mirror hu
      refine .ite ?_ (.of_eq hm)
      obtain h | ⟨hs, h⟩ := u.badClose_mirror rejecting
      · exact .of_eq (h.trans hm)
      · rw [h, hm]
        exact .missedFrame (.inr rfl) (State.heard_state hu ▸ hs)
    · exact .kept
  case discardedClose =>
    split
    · next cl spoiled u hcl =>
      have hm := State.heard_mirror (State.closing_heard hcl).1
      refine .ite ?_ (.of_eq hm)
      have settled : (if spoiled then u.spoiledClose cl.frame else u.rejectedClose cl).mirror = s.mirror :=
        (State.mirror_ite (u.spoiledClose_mirror _) (u.rejectedClose_mirror _)).trans hm
      obtain h | h := (if spoiled then u.spoiledClose cl.frame else u.rejectedClose cl).afterOwnClose_mirror cl.own
      · exact .of_eq (h.trans settled)
      · rw [h, settled]; exact .left
    · exact .kept
  case updateClose line => exact s.closeCommitted_move line .update _ actUpdate_mirror
  case evictClose line => exact s.closeCommitted_move line .evict _ actEvict_mirror
  case wipeClose line => exact s.closeCommitted_move line .wipe _ actWipe_mirror
  case presenceClose line => exact s.closeCommitted_move line .presence _ actPresence_mirror
  case syncRequestClose line => exact s.closeCommitted_move line .syncRequest _ actSyncRequest_mirror
  case offerClose line => exact s.closeCommitted_move line .offer _ actOffer_mirror
  case snapshotClose line => exact s.closeCommitted_move line .snapshot _ actSnapshot_mirror
  case listenTimerExpiry => exact .ite s.endListenWindow_move .kept
  case presenceTimer => exact .ite .kept .kept
  case offerTimerExpiry =>
    refine .ite ?_ .kept
    split
    · next next attempts hs => rw [State.retry_mirror]; exact .attempted (.inl rfl) hs
    · exact .kept
  case segmentTimerExpiry =>
    refine .ite ?_ .kept
    split
    · next d next attempts hs => rw [State.retry_mirror, State.post_mirror]; exact .attempted (.inr (.inl rfl)) hs
    · exact .kept
  case watchTimerExpiry x => exact .ite (s.expireWatch_move x) .kept

/-! ### The history invariant, on the mirror -/

/-- Coverage and lineage as the station state says they are: the history invariant speaks of the mirror alone. -/
def Mirror.historyOk (m : Mirror) : Prop :=
  match m.state with
  | .idle => True
  | .listen | .stranded => (∀ k : Segment, m.covered[k] = false) ∧ m.position = Position.none
  | .syncing _ next attempts =>
    attempts < 4 ∧ (∀ k : Segment, m.covered[k] = decide (k < next)) ∧
      (m.position.origin.isSome ↔ next ≠ 0) ∧ (m.position.origin = none → m.position = Position.none)
  | .synced => (∀ k : Segment, m.covered[k] = true) ∧ m.position.origin.isSome

/-- A joiner's coverage and position agree with its next segment: covered are those below it, and a lineage is held where there
are any. -/
def Mirror.joinerOk (m : Mirror) (next : Segment) : Prop :=
  (∀ k : Segment, m.covered[k] = decide (k < next)) ∧
    (m.position.origin.isSome ↔ next ≠ 0) ∧ (m.position.origin = none → m.position = Position.none)

/-- The invariant of the state is that of its mirror. -/
theorem State.historyOk_iff (s : State) : s.historyOk ↔ s.mirror.historyOk := Iff.rfl

section
variable {m : Mirror}

theorem Mirror.historyOk_left : m.left.historyOk := trivial

theorem Mirror.historyOk_joined : Mirror.joined.historyOk := ⟨fun k => by simp [Mirror.joined], rfl⟩

theorem Mirror.historyOk_lineage (x : Station) (g : Half) : (Mirror.lineage x g).historyOk :=
  ⟨fun k => by simp [Mirror.lineage], rfl⟩

theorem Mirror.historyOk_requesting : m.requesting.historyOk :=
  ⟨by decide, fun k => by simp [Mirror.requesting], by simp [Mirror.requesting, Position.none], fun _ => rfl⟩

theorem Mirror.historyOk_stranded : m.stranded.historyOk := ⟨fun k => by simp [Mirror.stranded], rfl⟩

theorem Mirror.historyOk_syncing_iff {sub : SubState} {next : Segment} {attempts : Nat} (h : m.state = .syncing sub next attempts) :
    m.historyOk ↔ attempts < 4 ∧ m.joinerOk next := by
  simp only [Mirror.historyOk, Mirror.joinerOk, h]

theorem Mirror.historyOk_synced_iff (h : m.state = .synced) :
    m.historyOk ↔ (∀ k : Segment, m.covered[k] = true) ∧ m.position.origin.isSome := by
  simp only [Mirror.historyOk, h]

/-- With coverage cleared and the position dropped, the next segment is 0. -/
theorem Mirror.joinerOk_zero :
    ({ m with covered := tab fun _ => false, position := Position.none } : Mirror).joinerOk 0 :=
  ⟨fun k => by simp, by simp [Position.none], fun _ => rfl⟩

/-- A failed attempt keeps coverage and position, or clears both. -/
theorem Mirror.historyOk_attempted {next : Segment} {attempts : Nat} (h : m.joinerOk next) :
    (m.attempted next attempts).historyOk := by
  unfold Mirror.attempted
  split
  · next hlt => exact ⟨hlt, h⟩
  · exact historyOk_stranded

/-- After a count the origin stands as before; only a position with a lineage is counted. -/
theorem Mirror.historyOk_counted (bytes : List Byte) (h : m.historyOk) : (m.counted bytes).historyOk := by
  unfold Mirror.counted
  split
  · next hs =>
    split
    · have hm := (Mirror.historyOk_synced_iff hs).mp h
      exact (Mirror.historyOk_synced_iff (m := { m with position := m.position.advance bytes }) hs).mpr hm
    · exact h
  · next sub next attempts hs =>
    split
    · next ho =>
      obtain ⟨hlt, hcov, hor, _⟩ := (Mirror.historyOk_syncing_iff hs).mp h
      refine (Mirror.historyOk_syncing_iff (m := { m with position := m.position.advance bytes }) hs).mpr
        ⟨hlt, hcov, hor, fun hn => ?_⟩
      exact absurd ho (by simp [show m.position.origin = none from hn])
    · exact h
  · exact h

theorem Mirror.historyOk_updated (x : Station) (op : Op) (i : Index) (h : m.historyOk) : (m.updated x op i).historyOk := by
  unfold Mirror.updated
  split <;> exact h

theorem Mirror.historyOk_donorLost (x : Station) (h : m.historyOk) : (m.donorLost x).historyOk := by
  unfold Mirror.donorLost
  split
  · next hs =>
    split
    · exact historyOk_attempted ((Mirror.historyOk_syncing_iff hs).mp h).2
    · exact h
  · exact h

theorem Mirror.historyOk_wiped (x : Station) (g : Half) (h : m.historyOk) : (m.wiped x g).historyOk := by
  unfold Mirror.wiped
  split <;> [exact historyOk_lineage x g; exact historyOk_lineage x g; exact h]

theorem Mirror.historyOk_weighed (r : Option Reported) (c : Carried) (h : m.historyOk) : (m.weighed r c).historyOk := by
  unfold Mirror.weighed
  split
  · split <;> [exact historyOk_requesting; exact h]
  · split <;> [exact historyOk_requesting; exact h]
  · exact h

theorem Mirror.historyOk_offered (number x j : Station) (k : Segment) (h : m.historyOk) :
    (m.offered number x j k).historyOk := by
  unfold Mirror.offered
  split
  · next hs =>
    split
    · exact (Mirror.historyOk_syncing_iff hs).mp h
    · exact h
  · exact h

/-- The next segment accepted with a position that has a lineage: one more segment is covered, and after the last one all are. -/
theorem Mirror.historyOk_advanced {d : Station} {k : Segment} {attempts : Nat} {rs : Vector Rec 16} (hlt : attempts < 4)
    (hcov : ∀ j : Segment, m.covered[j] = decide (j < k)) (hor : m.position.origin.isSome) :
    ((m.overwritten k rs).advanced d k attempts).historyOk := by
  have covered (j : Segment) : (m.overwritten k rs).covered[j] = decide (j ≤ k) := by
    have hj := hcov j
    simp only [Mirror.overwritten, Fin.getElem_fin, put_getElem] at hj ⊢
    split
    · next h => simp [Fin.le_def, h]
    · next h => simp only [hj, Fin.lt_def, Fin.le_def]; congr 1; exact propext (by omega)
  unfold Mirror.advanced
  split
  · next hk =>
    refine ⟨hlt, fun j => (covered j).trans ?_, ?_, fun hn => ?_⟩
    · simp only [Fin.lt_def, Fin.le_def]; congr 1; exact propext (by omega)
    · exact ⟨fun _ => Fin.ne_of_val_ne (Nat.succ_ne_zero _), fun _ => hor⟩
    · exact absurd hor (by simp [show m.position.origin = none from hn])
  · next hk =>
    have all (j : Segment) : (m.overwritten k rs).covered[j] = true := by
      rw [covered j]; exact decide_eq_true (Fin.le_def.mpr (by omega))
    rw [if_pos all]
    exact ⟨all, hor⟩

theorem Mirror.historyOk_received (number x j : Station) (k : Segment) (c : Carried) (rs : Vector Rec 16) (h : m.historyOk) :
    (m.received number x j k c rs).historyOk := by
  unfold Mirror.received
  split
  · next d next attempts hs =>
    obtain ⟨hlt, hcov, hor, hnone⟩ := (Mirror.historyOk_syncing_iff hs).mp h
    split
    · next hj =>
      obtain ⟨_, _, rfl⟩ := hj
      split <;> [skip; split]
      · exact historyOk_advanced (m := { m with position := positionOf c }) hlt hcov rfl
      · next hk _ => exact historyOk_advanced hlt hcov (hor.mpr hk)
      · exact historyOk_attempted joinerOk_zero
    · exact h
  · exact h

theorem Mirror.historyOk_close (number : Station) (cl : Closing) (h : m.historyOk) : (m.close number cl).historyOk := by
  unfold Mirror.close
  split
  case h_1 => split <;> [exact h; exact historyOk_weighed _ _ h]
  case h_2 => exact historyOk_counted _ (historyOk_updated _ _ _ h)
  case h_3 => exact historyOk_wiped _ _ h
  case h_4 z _ =>
    have hc : ((m.released z).counted (evictFoldBytes cl.sender z)).historyOk := historyOk_counted _ h
    split <;> [exact hc; exact historyOk_donorLost z hc]
  case h_5 => exact h
  case h_6 => split <;> [exact h; exact historyOk_offered _ _ _ _ h]
  case h_7 => split <;> [exact h; exact historyOk_received _ _ _ _ _ _ h]

end

/-- Every move of the mirror keeps the history invariant. -/
theorem State.MirrorMove.historyOk {s : State} {c : Instr} {m : Mirror} (h : s.MirrorMove c m) (hs : s.mirror.historyOk) :
    m.historyOk := by
  cases h with
  | kept => exact hs
  | left => exact Mirror.historyOk_left
  | reset => trivial
  | cleared => exact hs
  | joined => exact Mirror.historyOk_joined
  | closed => exact Mirror.historyOk_close _ _ hs
  | closedAndLeft => exact Mirror.historyOk_left
  | missedFrame => exact Mirror.historyOk_requesting
  | listened => exact Mirror.historyOk_requesting
  | founded => exact Mirror.historyOk_lineage _ _
  | attempted _ syncing => exact Mirror.historyOk_attempted ((Mirror.historyOk_syncing_iff syncing).mp hs).2

/-- A step is a millisecond, which moves no mirror, or a command on the same mirror. -/
theorem step_mirror {s t : State} (h : step s = .next t) :
    t.mirror = s.mirror ∨ ∃ c rest, s.pending = c :: rest ∧ exec c { s with pending := rest } = .next t := by
  unfold step at h
  split at h
  · cases h; exact .inl s.tick_mirror
  · next c rest hp => exact .inr ⟨c, rest, hp, h⟩

/-! ### An IDLE station, and a frame without a close -/

/-- In IDLE the mirror moves at a JOIN, at the start-up clear and at a hard reset only (R26, R40). -/
theorem State.MirrorMove.eq_of_idle {s : State} {c : Instr} {m : Mirror} (h : s.MirrorMove c m) (hs : s.sync.state = .idle)
    (hjoin : c ≠ .join) (hclear : c ≠ .startUpClearComplete) (hreset : ∀ sn br low, c ≠ .hardReset sn br low) :
    m = s.mirror := by
  cases h with
  | kept => rfl
  | left => exact Mirror.ext rfl rfl rfl hs.symm
  | reset => exact absurd rfl (hreset _ _ _)
  | cleared => exact absurd rfl hclear
  | joined => exact absurd rfl hjoin
  | closed _ takesPart => exact absurd hs takesPart
  | closedAndLeft _ takesPart => exact absurd hs takesPart
  | missedFrame _ synced => simp [hs] at synced
  | listened listening => simp [hs] at listening
  | founded listening => simp [hs, StationState.listens] at listening
  | attempted _ syncing => simp [hs] at syncing

/-- A received frame that began in IDLE, or that ends there, has no close (R27, R47). -/
theorem State.handsClose_receiving {s : State} {r : Reader} {closes rejecting : Bool}
    (hc : s.bus.current = .receiving r closes rejecting) (h : closes = false ∨ s.sync.state = .idle) : s.handsClose = false := by
  rcases h with h | h <;> simp [State.handsClose, hc, h]

/-- A received frame ends as its reader has read it. -/
theorem State.closing_receiving {s u : State} {line : Levels} {r : Reader} {closes rejecting : Bool}
    (hu : s.heard line = some (.close, u)) (hc : u.bus.current = .receiving r closes rejecting) :
    (r.bad = true → s.closing line = some (.bad rejecting, u)) ∧
    (∀ x f, r.discarded = some (x, f) → s.closing line = some (.discarded ⟨x, false, f⟩ false, u)) ∧
    (∀ x f, r.committed = some (x, f) → s.closing line = some (.committed ⟨x, false, f⟩, u)) := by
  rw [State.closing_eq hu, hc]
  refine ⟨fun h => ?_, fun x f h => ?_, fun x f h => ?_⟩
  · have hi : r.intact = none := by simpa [Reader.bad] using h
    simp [Current.ending, hi]
  · simp [Current.ending, (r.discarded_iff x f).mp h]
  · simp [Current.ending, (r.committed_iff x f).mp h]

/-- The command of the close of a committed frame of kind `k` is one close with the acts of its kind. -/
theorem exec_closeOf (k : Kind) (line : Levels) (s : State) :
    ∃ act, exec (closeOf k line) s = .next (s.closeCommitted line k act) := by
  cases k <;> exact ⟨_, rfl⟩

/-- A frame that has no close here, ended by its command: the bus interface is free and nothing else changes (R27). -/
theorem exec_withoutClose {s u : State} {line : Levels} {r : Reader} {closes rejecting : Bool}
    (hu : s.heard line = some (.close, u)) (hc : u.bus.current = .receiving r closes rejecting) (hn : u.handsClose = false) :
    (r.bad = true → exec (.badFrameClose line) s = .next (u.frameOver true)) ∧
    (r.discarded.isSome = true → exec (.discardedClose line) s = .next (u.frameOver false)) ∧
    (∀ x f, r.committed = some (x, f) → exec (closeOf f.kind line) s = .next (u.frameOver false)) := by
  obtain ⟨bad, discarded, committed⟩ := State.closing_receiving hu hc
  refine ⟨fun h => ?_, fun h => ?_, fun x f h => ?_⟩
  · show execBadFrameClose line s = _
    simp only [execBadFrameClose, bad h, hn]
    rfl
  · obtain ⟨⟨x, f⟩, h⟩ := Option.isSome_iff_exists.mp h
    show execDiscardedClose line s = _
    simp only [execDiscardedClose, discarded x f h, hn]
    rfl
  · obtain ⟨act, he⟩ := exec_closeOf f.kind line s
    rw [he, State.closeCommitted, committed x f h]
    simp only [hn]
    rfl

/-! ### What can change a record -/

@[simp] theorem Mirror.attempted_records (m : Mirror) (next : Segment) (attempts : Nat) :
    (m.attempted next attempts).records = m.records := by
  unfold Mirror.attempted; split <;> rfl

@[simp] theorem Mirror.donorLost_records (m : Mirror) (x : Station) : (m.donorLost x).records = m.records := by
  unfold Mirror.donorLost; split <;> [(split <;> [exact m.attempted_records _ _; rfl]); rfl]

@[simp] theorem Mirror.counted_records (m : Mirror) (bytes : List Byte) : (m.counted bytes).records = m.records := by
  unfold Mirror.counted; split <;> [split; split; skip] <;> rfl

@[simp] theorem Mirror.weighed_records (m : Mirror) (r : Option Reported) (c : Carried) : (m.weighed r c).records = m.records := by
  unfold Mirror.weighed; split <;> [split; split; skip] <;> rfl

@[simp] theorem Mirror.offered_records (m : Mirror) (number x j : Station) (k : Segment) :
    (m.offered number x j k).records = m.records := by
  unfold Mirror.offered; split <;> [split; skip] <;> rfl

@[simp] theorem Mirror.advanced_records (m : Mirror) (d : Station) (k : Segment) (attempts : Nat) :
    (m.advanced d k attempts).records = m.records := by
  unfold Mirror.advanced; split <;> [skip; split] <;> rfl

/-- The record at `i`. -/
def Mirror.record (m : Mirror) (i : Index) : Rec := m.records[i]

theorem Mirror.record_congr {m n : Mirror} (h : m.records = n.records) (i : Index) : m.record i = n.record i := by
  simp only [Mirror.record, h]

theorem Mirror.updated_record (m : Mirror) (x : Station) (op : Op) (j i : Index) :
    (m.updated x op j).record i = m.record i ∨ i = j ∧ (m.updated x op j).record i = (evaluate (m.record i) x op).2 := by
  unfold Mirror.updated
  split
  · by_cases h : i = j
    · subst h; exact .inr ⟨rfl, put_getElem_same ..⟩
    · exact .inl (put_getElem_other _ _ _ _ h)
  · exact .inl rfl

theorem Mirror.released_record (m : Mirror) (z : Station) (i : Index) :
    (m.released z).record i = if m.follows i then releasedRec (m.record i) z else m.record i := by
  simp [Mirror.record, Mirror.released]

theorem Mirror.wiped_record (m : Mirror) (x : Station) (g : Half) (i : Index) :
    (m.wiped x g).record i = m.record i ∨ (m.wiped x g).record i = Rec.zero := by
  unfold Mirror.wiped
  split <;> [exact .inr (tab_getElem ..); exact .inr (tab_getElem ..); exact .inl rfl]

theorem Mirror.overwritten_record (m : Mirror) (k : Segment) (rs : Vector Rec 16) (i : Index) :
    (m.overwritten k rs).record i = if segmentOf i = k then rs[i.val % 16]'(Nat.mod_lt _ (by decide)) else m.record i := by
  simp [Mirror.record, Mirror.overwritten]

/-- A joiner overwrites the segment that it accepts, and no other record. -/
theorem Mirror.received_record (m : Mirror) (number x j : Station) (k : Segment) (c : Carried) (rs : Vector Rec 16) (i : Index) :
    (m.received number x j k c rs).record i = m.record i ∨
    (m.received number x j k c rs).record i = (m.overwritten k rs).record i := by
  unfold Mirror.received
  split <;> [(split <;> [(split <;> [skip; split]); skip]); skip]
  · exact .inr (Mirror.record_congr (Mirror.advanced_records ..) i)
  · exact .inr (Mirror.record_congr (Mirror.advanced_records ..) i)
  · exact .inl (Mirror.record_congr (Mirror.attempted_records ..) i)
  · exact .inl rfl
  · exact .inl rfl

/-- The record `i` becomes `r` by what the frame of the close carries. -/
inductive Closing.Writes (cl : Closing) (old : Rec) (i : Index) : Rec → Prop
  | updated {ticket : Byte} {op : Op} (frame : cl.frame = .update ticket op i) : cl.Writes old i (evaluate old cl.sender op).2
  | released {z : Station} (frame : cl.frame = .evict z) : cl.Writes old i (releasedRec old z)
  | wiped {g : Half} (frame : cl.frame = .wipe g) : cl.Writes old i Rec.zero
  | overwritten {j : Station} {k : Segment} {c : Carried} {rs : Vector Rec 16} (received : cl.own = false)
      (frame : cl.frame = .snapshot j k c rs) (segment : segmentOf i = k) :
      cl.Writes old i (rs[i.val % 16]'(Nat.mod_lt _ (by decide)))

/-- A record after a committed close: as it stood, or written by what the frame carries. -/
theorem Mirror.close_record (m : Mirror) (number : Station) (cl : Closing) (i : Index) :
    (m.close number cl).record i = m.record i ∨ cl.Writes (m.record i) i ((m.close number cl).record i) := by
  obtain ⟨x, own, f⟩ := cl
  cases f with
  | presence state interval c =>
    left; cases own <;> [exact Mirror.record_congr (m.weighed_records _ c) i; rfl]
  | update ticket op j =>
    have hc := Mirror.record_congr ((m.updated x op j).counted_records (updateFoldBytes x ticket j)) i
    obtain h | ⟨rfl, h⟩ := m.updated_record x op j i
    · exact .inl (hc.trans h)
    · exact .inr (hc.trans h ▸ .updated rfl)
  | wipe g =>
    obtain h | h := m.wiped_record x g i
    · exact .inl h
    · exact .inr (h ▸ .wiped rfl)
  | evict z =>
    have hr : (m.close number ⟨x, own, .evict z⟩).record i = (m.released z).record i :=
      Mirror.record_congr (by simp only [Mirror.close]; split <;> simp) i
    rw [hr, Mirror.released_record]
    split <;> [exact .inr (.released rfl); exact .inl rfl]
  | syncRequest k => exact .inl rfl
  | offer j k =>
    left; cases own <;> [exact Mirror.record_congr (m.offered_records ..) i; rfl]
  | snapshot j k c rs =>
    cases own with
    | true => exact .inl rfl
    | false =>
      obtain h | h := m.received_record number x j k c rs i
      · exact .inl h
      · rw [Mirror.overwritten_record] at h
        split at h
        · next hk => exact .inr (h ▸ .overwritten rfl rfl hk)
        · exact .inl h

/-- A record after a command: as it stood, zeroed, or written by the close of the committed frame that the levels carry. -/
theorem State.MirrorMove.record_cases {s : State} {c : Instr} {m : Mirror} (h : s.MirrorMove c m) (i : Index) :
    m.record i = s.table.records[i] ∨
    (m.record i = Rec.zero ∧ (c = .listenTimerExpiry ∨ c = .join ∨ c = .startUpClearComplete)) ∨
    ∃ (line : Levels) (cl : Closing), c = closeOf cl.frame.kind line ∧ s.carries line cl.own cl.sender cl.frame ∧
      cl.Writes s.table.records[i] i (m.record i) := by
  cases h with
  | kept => exact .inl rfl
  | left => exact .inl rfl
  | reset => exact .inl rfl
  | cleared => exact .inr (.inl ⟨tab_getElem .., .inr (.inr rfl)⟩)
  | joined => exact .inr (.inl ⟨tab_getElem .., .inr (.inl rfl)⟩)
  | @closed line cl carried _ =>
    exact (s.mirror.close_record s.number cl i).imp id fun hw => .inr ⟨line, cl, rfl, carried, hw⟩
  | @closedAndLeft line cl carried _ =>
    exact (s.mirror.close_record s.number cl i).imp id fun hw => .inr ⟨line, cl, rfl, carried, hw⟩
  | missedFrame => exact .inl rfl
  | listened => exact .inl rfl
  | founded => exact .inr (.inl ⟨tab_getElem .., .inl rfl⟩)
  | attempted => exact .inl (Mirror.record_congr (s.mirror.attempted_records ..) i)

/-- A claimed record is the claimant's: an update of another station leaves it as it stands (R11). -/
theorem evaluate_of_other {r : Rec} {x y : Station} (hr : r.claimant = some x) (h : y ≠ x) (op : Op) :
    (evaluate r y op).2 = r := by
  cases op <;> simp [evaluate, claimedByOther, hr, h.symm]

/-- An update of the claimant changes the value only where it is APPLIED, and the claimant only by a RELEASE. -/
theorem evaluate_of_claimant {r : Rec} {x : Station} (hr : r.claimant = some x) (op : Op) :
    ((evaluate r x op).2.value ≠ r.value → (evaluate r x op).1 = .applied) ∧
    ((evaluate r x op).2.claimant ≠ r.claimant → op = .release) := by
  cases op with
  | write v => simp [evaluate, claimedByOther, hr, changedRec]
  | cswap e v => by_cases he : r.version = e <;> simp [evaluate, claimedByOther, hr, changedRec, he]
  | claim => simp [evaluate, hr]
  | release => simp [evaluate, hr, changedRec]

theorem releasedRec_value (r : Rec) (z : Station) : (releasedRec r z).value = r.value := by
  unfold releasedRec; split <;> rfl

theorem releasedRec_claimant {r : Rec} {x z : Station} (hr : r.claimant = some x) (h : (releasedRec r z).claimant ≠ r.claimant) :
    z = x := by
  unfold releasedRec at h
  split at h
  · next hz => exact Option.some.inj (hz.symm.trans hr)
  · exact absurd rfl h

/-! ### The close of a committed frame, by whose it is -/

@[simp] theorem State.afterClose_straps (s : State) (own : Bool) (f : Frame) : (s.afterClose own f).straps = s.straps := by cases own <;> rfl
@[simp] theorem State.afterClose_table (s : State) (own : Bool) (f : Frame) : (s.afterClose own f).table = s.table := by cases own <;> rfl
@[simp] theorem State.afterClose_update (s : State) (own : Bool) (f : Frame) : (s.afterClose own f).update = s.update := by cases own <;> rfl
@[simp] theorem State.afterClose_sync (s : State) (own : Bool) (f : Frame) : (s.afterClose own f).sync = s.sync := by cases own <;> rfl
@[simp] theorem State.afterClose_peers (s : State) (own : Bool) (f : Frame) : (s.afterClose own f).peers = s.peers := by cases own <;> rfl
@[simp] theorem State.afterClose_port (s : State) (own : Bool) (f : Frame) : (s.afterClose own f).port = s.port := by cases own <;> rfl

section
variable {s u : State} {line : Levels} {own : Bool} {x : Station} {f : Frame}

/-- A station that takes a close is out of IDLE. -/
theorem State.takesClose_state (h : s.takesClose line own x f u) : u.sync.state ≠ .idle := by
  cases own with
  | true => obtain ⟨o, ⟨_, hs, _⟩, _⟩ := h; exact hs
  | false => obtain ⟨r, rejecting, ⟨_, hs, _⟩, _⟩ := h; exact hs

/-- Where the acts keep leave-pending, the close is the acts on the state the bus interface leaves: an own frame taken has no leave
pending, and another station's close brings none about. -/
theorem State.closeCommitted_eq (h : s.takesClose line own x f u) {act : Closing → State → State} {t : State}
    (ht : act ⟨x, own, f⟩ (u.afterClose own f) = t) (hl : own = true → t.sync.leavePending = u.sync.leavePending) :
    s.closeCommitted line f.kind act = t := by
  rw [State.closeCommitted_takes h, ht]
  refine State.afterOwnClose_eq ?_
  cases own with
  | false => exact .inl rfl
  | true => obtain ⟨_, _, _, _, _, hp, _⟩ := h; exact .inr ((hl rfl).trans hp)

end

/-! ### What a station follows (R5) -/

theorem State.follows_synced {s : State} (h : s.sync.state = .synced) (i : Index) : s.follows i = true := by
  simp [State.follows, h]

theorem State.follows_syncing {s : State} {sub : SubState} {next : Segment} {attempts : Nat}
    (h : s.sync.state = .syncing sub next attempts) (i : Index) :
    s.follows i = s.table.covered[i.val / 16]'(by omega) := by
  simp [State.follows, h, segmentOf]

theorem State.follows_listens {s : State} (h : s.sync.state.listens = true) (i : Index) : s.follows i = false := by
  unfold State.follows
  cases hs : s.sync.state <;> simp_all [StationState.listens]

/-! ### Evidence -/

theorem State.hearEvidence_listens {s : State} (h : s.sync.state.listens = true) :
    s.hearEvidence = { s with sync := { s.sync with evidenceHeard := true } } := by
  rw [State.hearEvidence_eq, if_pos h]

theorem State.hearEvidence_other {s : State} (h : s.sync.state.listens = false) : s.hearEvidence = s := by
  rw [State.hearEvidence_eq, h]; rfl

theorem StationState.listens_iff (st : StationState) : st.listens = true ↔ st = .listen ∨ st = .stranded := by
  cases st <;> simp [StationState.listens]

/-! ### UPDATE -/

/-- A followed record evaluated, and the frame counted (R5, R41). -/
def State.changed (s : State) (x : Station) (ticket : Byte) (op : Op) (i : Index) : State :=
  { s with
    table := { s.table with records := put s.table.records i (evaluate s.table.records[i] x op).2 }
    sync  := { s.sync with position := s.sync.position.after (byteOf x.val) 2 ticket (byteOf i.val) } }

theorem State.countFrame_listens {s : State} (h : s.sync.state.listens = true) (bytes : List Byte) : s.countFrame bytes = s := by
  unfold State.countFrame
  cases hs : s.sync.state <;> simp_all [StationState.listens]

@[simp] theorem State.noteChange_sync (s : State) (i : Index) (x : Station) : (s.noteChange i x).sync = s.sync := by
  obtain h | ⟨_, _, _, h⟩ | ⟨_, _, _, h⟩ := s.noteChange_cases i x <;> rw [h]

/-- The watch check reads and writes nothing of the sync controller. -/
theorem State.noteChange_withSync (s : State) (i : Index) (x : Station) (sync : SyncController) :
    { s.noteChange i x with sync := sync } = State.noteChange { s with sync := sync } i x := by
  unfold State.noteChange
  split <;> [split; skip] <;> rfl

/-- A record that is not watched, or whose event is still queued, is not reported (R190). -/
theorem State.noteChange_quiet {s : State} {i : Index} (h : s.table.watch[i] = false ∨ s.table.changePending[i] = true)
    (x : Station) : s.noteChange i x = s := by
  rcases h with h | h <;> simp_all [State.noteChange]

theorem State.noteChange_room {s : State} {i : Index} (hw : s.table.watch[i] = true) (hp : s.table.changePending[i] = false)
    (hn : s.port.events.length < 16) (x : Station) :
    s.noteChange i x =
      { s with
        table := { s.table with changePending := put s.table.changePending i true }
        port  := { s.port with events := s.port.events ++ [.recordChanged i x] } } := by
  simp_all [State.noteChange, Config.eventLimit]

theorem State.noteChange_full {s : State} {i : Index} (hw : s.table.watch[i] = true) (hp : s.table.changePending[i] = false)
    (hn : 16 ≤ s.port.events.length) (x : Station) :
    s.noteChange i x = { s with port := { s.port with lost := min 255 (s.port.lost + 1) } } := by
  simp_all [State.noteChange, Config.eventLimit, Config.lostLimit, Nat.not_lt.mpr hn]

section
variable {s : State} {x : Station} {ticket : Byte} {op : Op} {i : Index}

theorem actUpdate_unfollowed {own : Bool} (hf : s.follows i = false) :
    actUpdate ⟨x, own, .update ticket op i⟩ s = s.hearEvidence.countFrame (updateFoldBytes x ticket i) := by
  simp [actUpdate, State.evaluation, hf, State.applyEvaluation, State.settleEvaluation]

/-- In LISTEN and STRANDED an UPDATE is evidence only (R76). -/
theorem actUpdate_listens {own : Bool} (hl : s.sync.state.listens = true) :
    actUpdate ⟨x, own, .update ticket op i⟩ s = { s with sync := { s.sync with evidenceHeard := true } } := by
  rw [actUpdate_unfollowed (State.follows_listens hl i), State.hearEvidence_listens hl]
  exact State.countFrame_listens (s := { s with sync := { s.sync with evidenceHeard := true } }) hl _

/-- A joiner counts the UPDATE of a record that it does not cover, where it holds a lineage (R5, R41). -/
theorem actUpdate_uncovered {own : Bool} {sub : SubState} {next : Segment} {attempts : Nat}
    (hs : s.sync.state = .syncing sub next attempts) (hf : s.follows i = false) :
    actUpdate ⟨x, own, .update ticket op i⟩ s =
      { s with
        sync :=
          { s.sync with
            position :=
              if s.sync.position.origin = none then s.sync.position
              else s.sync.position.after (byteOf x.val) 2 ticket (byteOf i.val) } } := by
  rw [actUpdate_unfollowed hf, State.hearEvidence_other (by rw [hs]; rfl), updateFoldBytes, State.countFrame_eq, hs]
  cases s.sync.position.origin <;> rfl

/-- A station that follows a record is SYNCED or SYNCING. -/
theorem State.follows_active (hf : s.follows i = true) : s.sync.state ≠ .idle ∧ s.sync.state.listens = false := by
  unfold State.follows at hf
  cases hs : s.sync.state <;> simp_all [StationState.listens]

/-- A SYNCED or SYNCING station with a lineage counts and folds an ordered frame (R41, R42). -/
theorem State.countFrame_lineage {b0 b1 b2 b3 : Byte} (hs : s.sync.state ≠ .idle) (hl : s.sync.state.listens = false)
    (ho : s.sync.position.origin ≠ none) :
    s.countFrame [b0, b1, b2, b3] = { s with sync := { s.sync with position := s.sync.position.after b0 b1 b2 b3 } } := by
  have ho' : s.sync.position.origin.isSome := Option.isSome_iff_ne_none.mpr ho
  rw [State.countFrame_eq]
  cases h : s.sync.state <;> simp_all [StationState.listens]

/-- The record evaluated and the frame counted, the watch check taken in between only for another station's APPLIED change. -/
theorem actUpdate_followed {own : Bool} (hf : s.follows i = true) (ho : s.sync.position.origin ≠ none) :
    actUpdate ⟨x, own, .update ticket op i⟩ s =
      State.settleEvaluation
        (if own = false ∧ (evaluate s.table.records[i] x op).1 = .applied then (s.changed x ticket op i).noteChange i x
         else s.changed x ticket op i)
        ⟨x, own, .update ticket op i⟩ (some (evaluate s.table.records[i] x op)) := by
  obtain ⟨hi, hl⟩ := State.follows_active hf
  simp only [actUpdate, State.hearEvidence_other hl, State.evaluation, if_pos hf]
  congr 1
  unfold State.applyEvaluation updateFoldBytes
  dsimp only
  split
  · rw [State.countFrame_lineage (by rwa [State.noteChange_sync]) (by rwa [State.noteChange_sync])
      (by rwa [State.noteChange_sync]), State.noteChange_sync]
    exact State.noteChange_withSync ..
  · exact State.countFrame_lineage (s := { s with table := _ }) hi hl ho

theorem actUpdate_received (hf : s.follows i = true) (ho : s.sync.position.origin ≠ none) :
    actUpdate ⟨x, false, .update ticket op i⟩ s =
      if (evaluate s.table.records[i] x op).1 = .applied then (s.changed x ticket op i).noteChange i x
      else s.changed x ticket op i := by
  rw [actUpdate_followed hf ho]
  simp [State.settleEvaluation]

theorem actUpdate_own (hf : s.follows i = true) (ho : s.sync.position.origin ≠ none) :
    actUpdate ⟨x, true, .update ticket op i⟩ s =
      (s.changed x ticket op i).settleHead (evaluate s.table.records[i] x op).1 (evaluate s.table.records[i] x op).2.version := by
  rw [actUpdate_followed hf ho]
  simp [State.settleEvaluation]

end

theorem versionAfter_eq (r : Result) (v : Half) : versionAfter r v = if r = .applied ∨ r = .unchanged then some v else none := by
  cases r <;> rfl

/-- UPDATE_CLOSE at a station that takes the close runs the acts, with no leave to follow. -/
theorem exec_updateClose {s u t : State} {line : Levels} {own : Bool} {x : Station} {ticket : Byte} {op : Op} {i : Index}
    (h : s.takesClose line own x (.update ticket op i) u)
    (ht : actUpdate ⟨x, own, .update ticket op i⟩ (u.afterClose own (.update ticket op i)) = t)
    (hl : own = true → t.sync.leavePending = u.sync.leavePending) : exec (.updateClose line) s = .next t :=
  congrArg Host.Outcome.next (State.closeCommitted_eq h ht hl)

/-! ### Leave-pending stands through the acts -/

@[simp] theorem State.strand_leavePending (s : State) : s.strand.sync.leavePending = s.sync.leavePending := rfl

@[simp] theorem State.retry_leavePending (s : State) (next : Segment) (attempts : Nat) :
    (s.retry next attempts).sync.leavePending = s.sync.leavePending := by
  unfold State.retry; split <;> rfl

@[simp] theorem State.endServing_leavePending (s : State) (why : EndReason) :
    (s.endServing why).sync.leavePending = s.sync.leavePending := by
  unfold State.endServing; split <;> rfl

@[simp] theorem State.loseTransfers_leavePending (s : State) (x : Station) :
    (s.loseTransfers x).sync.leavePending = s.sync.leavePending := by
  have served : (match s.sync.donor with
      | some d => if d.joiner = x then s.endServing .joinerLost else s
      | none   => s).sync.leavePending = s.sync.leavePending := by
    split <;> [(split <;> [exact s.endServing_leavePending _; rfl]); rfl]
  unfold State.loseTransfers
  dsimp only
  split
  · split
    · rw [State.retry_leavePending]; exact served
    · exact served
  · exact served

/-! ### EVICT -/

/-- The claims of `z` released where the records are followed, and the frame counted or taken as evidence (R15, R41, R76). -/
def State.evicted (s : State) (x z : Station) : State :=
  { s with
    table :=
      { s.table with
        records := tab fun i =>
          if s.follows i = true ∧ s.table.records[i].claimant = some z then
            { s.table.records[i] with claimant := none, version := s.table.records[i].version + 1 }
          else s.table.records[i] }
    sync  :=
      match s.sync.state with
      | .listen | .stranded => { s.sync with evidenceHeard := true }
      | _ =>
        { s.sync with
          position :=
            if s.sync.position.origin = none then s.sync.position
            else s.sync.position.after (byteOf x.val) 4 0 (byteOf z.val) } }

theorem State.releaseClaims_eq (s : State) (z : Station) :
    s.releaseClaims z =
      { s with
        table :=
          { s.table with
            records := tab fun i =>
              if s.follows i = true ∧ s.table.records[i].claimant = some z then
                { s.table.records[i] with claimant := none, version := s.table.records[i].version + 1 }
              else s.table.records[i] } } := by
  refine congrArg (fun f : Index → Rec => { s with table := { s.table with records := tab f } }) (funext fun i => ?_)
  by_cases hf : s.follows i <;> simp [hf, releasedRec]

theorem actEvict_evicted {s : State} (hs : s.sync.state ≠ .idle) (own : Bool) (x z : Station) :
    actEvict ⟨x, own, .evict z⟩ s = (s.evicted x z).evictPeer z x := by
  have he : (s.hearEvidence.releaseClaims z).countFrame (evictFoldBytes x z) = s.evicted x z := by
    rw [State.releaseClaims_eq]
    cases hl : s.sync.state.listens with
    | true =>
      rw [State.hearEvidence_listens hl]
      refine (State.countFrame_listens (s := { s with table := _, sync := { s.sync with evidenceHeard := true } }) hl _).trans ?_
      unfold State.evicted
      split
      · rfl
      · rfl
      · next hn hn' => exact ((StationState.listens_iff _).mp hl).elim (absurd · hn) (absurd · hn')
    | false =>
      rw [State.hearEvidence_other hl, evictFoldBytes, State.countFrame_eq]
      unfold State.evicted
      cases h : s.sync.state with
      | synced => cases s.sync.position.origin <;> simp
      | syncing => cases s.sync.position.origin <;> simp
      | idle => exact absurd h hs
      | _ => simp [h, StationState.listens] at hl
  simp only [actEvict, he]

/-- The peer unit at the close of an EVICT, in the words of the claims. -/
theorem State.evictPeer_eq (s : State) (z x : Station) :
    s.evictPeer z x =
      if z = s.number then s.post (.selfEvicted x)
      else
        ((s.withPeer z
            { s.peers.entries[z] with
              state := .absent, hits := 0, misses := 0, watchTimer := none, evictPending := false }).post
          (.peerEvicted z x)).peerLost z := by
  unfold State.evictPeer
  rw [State.loseTransfers_eq]
  rfl

theorem State.evictPeer_leavePending (s : State) (z x : Station) :
    (s.evictPeer z x).sync.leavePending = s.sync.leavePending := by
  unfold State.evictPeer
  split <;> simp

theorem State.evicted_leavePending (s : State) (x z : Station) : (s.evicted x z).sync.leavePending = s.sync.leavePending := by
  unfold State.evicted
  cases s.sync.state <;> rfl

/-! ### WIPE -/

/-- Every outbound entry ended with CANCELLED_WIPE (R68). -/
def State.wipeCancelled (s : State) : State :=
  { s with
    update :=
      { s.update with outbound := [], completions := s.update.completions ++ s.cancelled .cancelledWipe, held := false } }

/-- The replica zeroed and covered (R17). -/
def TableUnit.wiped (t : TableUnit) : TableUnit :=
  { t with records := tab fun _ => Rec.zero, covered := tab fun _ => true }

section
variable {s : State} (own : Bool) (x : Station) (g : Half)

theorem actWipe_synced (hs : s.sync.state = .synced) :
    actWipe ⟨x, own, .wipe g⟩ s =
      State.postAll
        { s.wipeCancelled with
          table := s.table.wiped
          sync  := { s.sync with position := ⟨g, some x, 0, 0⟩, wipePending := none, donor := none } }
        (s.servingEnds .wiped ++ [.wiped x g]) := by
  have hc : (s.cancel .cancelledWipe).sync.state = .synced := hs
  simp only [actWipe, hc, State.endServing_eq, State.postAll_append]
  rfl

theorem actWipe_syncing {sub : SubState} {next : Segment} {attempts : Nat} (hs : s.sync.state = .syncing sub next attempts) :
    actWipe ⟨x, own, .wipe g⟩ s =
      State.postAll
        { s.wipeCancelled with
          table := s.table.wiped
          sync  :=
            { s.sync with
              state := .synced, position := ⟨g, some x, 0, 0⟩, wipePending := none, syncRequest := false
              listenTimer := none, offerTimer := none, segmentTimer := none }
          bus   := { s.bus with rejectStreak := 0 } }
        [.wiped x g, .stateChanged .synced .wiped] := by
  have hc : (s.cancel .cancelledWipe).sync.state = .syncing sub next attempts := hs
  simp only [actWipe, hc]
  rfl

theorem actWipe_listens (hl : s.sync.state.listens = true) :
    actWipe ⟨x, own, .wipe g⟩ s = { s.wipeCancelled with sync := { s.sync with evidenceHeard := true } } := by
  have he : (s.cancel .cancelledWipe).hearEvidence = { s.wipeCancelled with sync := { s.sync with evidenceHeard := true } } :=
    State.hearEvidence_listens (s := s.cancel .cancelledWipe) hl
  rw [← he]
  obtain hs | hs := (StationState.listens_iff _).mp hl <;> simp only [actWipe, State.cancel_sync, hs]

end

/-- WIPE_CLOSE at a station that takes the close runs the acts, with no leave to follow. -/
theorem exec_wipeClose {s u t : State} {line : Levels} {own : Bool} {x : Station} {g : Half}
    (h : s.takesClose line own x (.wipe g) u) (ht : actWipe ⟨x, own, .wipe g⟩ (u.afterClose own (.wipe g)) = t)
    (hl : t.sync.leavePending = u.sync.leavePending) : exec (.wipeClose line) s = .next t :=
  congrArg Host.Outcome.next (State.closeCommitted_eq h ht fun _ => hl)

/-! ### SNAPSHOT at a joiner -/

/-- SNAPSHOT_CLOSE of another station's frame runs the joiner's acts, after the evidence. -/
theorem exec_snapshotReceived {s u t : State} {line : Levels} {x j : Station} {k : Segment} {c : Carried} {rs : Vector Rec 16}
    (h : s.takesClose line false x (.snapshot j k c rs) u)
    (ht : u.afterReceived.hearEvidence.receiveSegment x j k c rs = t) : exec (.snapshotClose line) s = .next t :=
  congrArg Host.Outcome.next (State.closeCommitted_eq h ht nofun)

/-- The replica with segment `k` overwritten and covered (R20). -/
def TableUnit.withSegment (t : TableUnit) (k : Segment) (rs : Vector Rec 16) : TableUnit :=
  { t with
    records := tab fun i => if i.val / 16 = k.val then rs[i.val % 16]'(Nat.mod_lt _ (by decide)) else t.records[i]
    covered := put t.covered k true }

theorem State.overwriteSegment_eq (s : State) (k : Segment) (rs : Vector Rec 16) :
    s.overwriteSegment k rs = { s with table := s.table.withSegment k rs } := by
  simp only [State.overwriteSegment, TableUnit.withSegment, segmentOf, Fin.ext_iff]

section
variable {s : State} {x j : Station} {k : Segment} {c : Carried} {rs : Vector Rec 16} {attempts : Nat}

theorem State.acceptSegment_next (d : Station) (next : Segment) (hn : next.val = k.val + 1) :
    s.acceptSegment d k rs attempts =
      { s with
        table := s.table.withSegment k rs
        sync  :=
          { s.sync with
            state := .syncing (.receiving d) next attempts
            segmentTimer := some (4 * s.port.inEffect.presenceInterval) } } := by
  have hk : k.val < 15 := by omega
  have hnext : next = ⟨k.val + 1, by omega⟩ := Fin.ext hn
  simp only [State.acceptSegment, State.overwriteSegment_eq, dif_pos hk, hnext]

theorem State.acceptSegment_last (d : Station) (hk : k.val = 15) (hc : ∀ m : Segment, m.val < 15 → s.table.covered[m] = true) :
    s.acceptSegment d k rs attempts =
      State.post { s with table := s.table.withSegment k rs }.becomeSynced (.stateChanged .synced .transferDone) := by
  have hall : ({ s with table := s.table.withSegment k rs } : State).allCovered = true := by
    simp only [State.allCovered, List.all_eq_true, List.mem_finRange, forall_const]
    intro m
    by_cases hm : m = k
    · subst hm; exact put_getElem_same ..
    · exact (put_getElem_other _ _ _ _ hm).trans (hc m (by omega))
  simp only [State.acceptSegment, State.overwriteSegment_eq, dif_neg (show ¬ k.val < 15 by omega), if_pos hall]

/-- A joiner accepts its next segment: the first one gives it the position, a later one carries its own (R110, R111). -/
theorem State.receiveSegment_accepted (hs : s.sync.state = .syncing (.receiving x) k attempts) (hj : j = s.number)
    (hp : k.val = 0 ∨ s.sync.position = positionOf c) :
    s.receiveSegment x j k c rs =
      State.acceptSegment { s with sync := { s.sync with position := positionOf c } } x k rs attempts := by
  by_cases hk : k = 0
  · simp [State.receiveSegment, hs, hj, hk]
  · have hp := hp.resolve_left fun h => hk (Fin.ext h)
    rw [show ({ s with sync := { s.sync with position := positionOf c } } : State) = s by rw [← hp]]
    simp [State.receiveSegment, hs, hj, hk, hp]

/-- A position that differs restarts the transfer (R112). -/
theorem State.receiveSegment_restarts (hs : s.sync.state = .syncing (.receiving x) k attempts) (hj : j = s.number)
    (hk : k.val ≠ 0) (hp : s.sync.position ≠ positionOf c) : s.receiveSegment x j k c rs = s.restartTransfer attempts := by
  have hk : k ≠ 0 := fun h => hk (congrArg Fin.val h)
  simp [State.receiveSegment, hs, hj, hk, hp]

/-- Any other SNAPSHOT is disregarded (R109). -/
theorem State.receiveSegment_other
    (h : ∀ d next attempts, s.sync.state = .syncing (.receiving d) next attempts → ¬ (j = s.number ∧ x = d ∧ k = next)) :
    s.receiveSegment x j k c rs = s := by
  unfold State.receiveSegment
  split
  · next hs => exact if_neg (h _ _ _ hs)
  · rfl

end

/-! ### The reset state -/

theorem State.reset_eventsOk : State.reset.eventsOk :=
  ⟨Nat.zero_le _, Nat.zero_le _, fun i => by simp [State.reset, HostPort.reset, TableUnit.reset]⟩

theorem Params.defaults_inRange : Params.defaults.inRange = true := by decide

/-- No peer entry of the reset state differs from a fresh one (R120). -/
theorem State.reset_entries (x : Station) : State.reset.peers.entries[x] = Peer.fresh := by
  simp [State.reset, PeerUnit.reset]

theorem State.reset_rolesOk : State.reset.RolesOk where
  entries     := fun h => absurd rfl h
  held        := fun h => nomatch h
  wipe        := fun h => nomatch h
  donor       := fun h => nomatch h
  offer       := fun h => nomatch h
  request     := fun h => nomatch h
  evict       := fun x h => by rw [State.reset_entries] at h; cases h
  listenTimer := rfl
  offerTimer  := fun h => nomatch h
  segment     := rfl
  presence    := rfl
  pending     := fun h => nomatch h
  leave       := fun h => nomatch h
  flight      := fun h => nomatch h
  step        := fun h => absurd rfl h
  closes      := fun _ _ h => nomatch h
  rejects     := fun _ _ h => nomatch h
  due         := trivial

theorem State.reset_headInFlightOk : State.reset.headInFlightOk := by
  intro _ _ _ _ h
  cases h

theorem State.reset_rangesOk : State.reset.RangesOk where
  stored   := Params.defaults_inRange
  inEffect := Params.defaults_inRange
  reject   := Nat.zero_le _
  spoil    := Nat.zero_le _
  run      := Nat.zero_le _
  win      := Nat.zero_le _
  hits     := fun x => by rw [State.reset_entries]; exact Nat.zero_le _
  arriving := fun x h => by rw [State.reset_entries] at h; cases h
  misses   := fun x => by rw [State.reset_entries]; exact Nat.zero_le _
  interval := fun x => .inl (by rw [State.reset_entries]; rfl)
  head     := fun _ _ h => nomatch h
  waiting  := fun _ h => nomatch h
  donor    := fun _ h => nomatch h
  rejects  := fun _ _ h => nomatch h
  fill     := fun _ _ h => nomatch h
  sent     := fun _ h => nomatch h
  slot     := fun _ _ _ h => nomatch h

end Sys2Proof.Machine

namespace Sys2Proof

open Machine

/-! ### The statements -/

/-- Settles O47: the invariant speaks of the mirror, and every move of it keeps the invariant. -/
theorem everyStepKeepsHistory : Obligations.EveryStepKeepsHistory := by
  intro s t hs h
  rw [State.historyOk_iff] at hs ⊢
  obtain hm | ⟨c, rest, _, he⟩ := step_mirror h
  · rwa [hm]
  · exact (exec_mirror he).historyOk hs

/-- Settles O29: by the claimant, none, the sender or another station. -/
theorem evaluationFollowsClaimAndVersion : Obligations.EvaluationFollowsClaimAndVersion := by
  rintro ⟨value, version, claimant, writer⟩ x v expected
  refine ⟨?_, ?_, ?_, ?_⟩
  · rintro ⟨hn, hx⟩
    obtain ⟨y, rfl⟩ := Option.ne_none_iff_exists'.mp hn
    have hyx : y ≠ x := fun h => hx (congrArg some h)
    simp [evaluate, claimedByOther, hyx]
  · rintro (rfl | rfl) <;> simp +contextual [evaluate, claimedByOther, changedRec]
  · rintro rfl
    exact ⟨rfl, rfl⟩
  · rintro rfl
    simp [evaluate, changedRec]

/-- Settles O5: both commands write these values as they stand. -/
theorem hardResetAndClearTakeResetValues : Obligations.HardResetAndClearTakeResetValues := by
  intro sn br scsLow s
  refine ⟨rfl, fun hs => ?_⟩
  show execStartUpClearComplete s = _
  rw [execStartUpClearComplete, if_pos hs]
  rfl

/-- Settles O50: the reset state's queues, timers and counters are empty, stopped and 0. -/
theorem resetMeetsEveryInvariant : Obligations.ResetMeetsEveryInvariant :=
  ⟨rfl, ⟨Nat.zero_le _, Nat.zero_le _⟩, State.reset_eventsOk, trivial, State.reset_rolesOk, State.reset_headInFlightOk,
    State.reset_rangesOk⟩

/-- Settles O51: a record changes by a zeroing or by what a committed frame carries, and the evaluation keeps a claimed record for
its claimant. -/
theorem claimedRecordChangesOnlyByItsRules : Obligations.ClaimedRecordChangesOnlyByItsRules := by
  intro c s t i x h hx zeroed overwritten
  rw [← show t.mirror.record i = t.table.records[i] from rfl]
  obtain hr | ⟨hr, hc⟩ | ⟨line, ⟨y, own, f⟩, hc, carried, hw⟩ := (exec_mirror h).record_cases i
  · exact ⟨fun hv => absurd (congrArg Rec.value hr) hv, fun hv => absurd (congrArg Rec.claimant hr) hv⟩
  · have hz : zeroed := ⟨hr, .inr hc⟩
    exact ⟨fun _ => .inr (.inr hz), fun _ => .inr (.inr (.inr hz))⟩
  · generalize hr : t.mirror.record i = r at hw ⊢
    cases hw with
    | @updated ticket op frame =>
      obtain rfl : f = .update ticket op i := frame
      by_cases hy : y = x
      · subst hy
        obtain ⟨applied, release⟩ := evaluate_of_claimant hx op
        refine ⟨fun hv => .inl ⟨line, own, ticket, op, hc, carried, Prod.ext (applied hv) rfl⟩, fun hv => ?_⟩
        obtain rfl := release hv
        exact .inl ⟨line, own, ticket, hc, carried⟩
      · rw [evaluate_of_other hx hy]
        exact ⟨fun hv => absurd rfl hv, fun hv => absurd rfl hv⟩
    | @released z frame =>
      obtain rfl : f = .evict z := frame
      refine ⟨fun hv => absurd (releasedRec_value _ z) hv, fun hv => ?_⟩
      obtain rfl := releasedRec_claimant hx hv
      exact .inr (.inl ⟨line, own, y, hc, carried⟩)
    | @wiped g frame =>
      obtain rfl : f = .wipe g := frame
      have hz : zeroed := ⟨hr, .inl ⟨line, hc⟩⟩
      exact ⟨fun _ => .inr (.inr hz), fun _ => .inr (.inr (.inr hz))⟩
    | @overwritten j k g rs received frame segment =>
      obtain rfl : f = .snapshot j k g rs := frame
      obtain rfl : own = false := received
      have ho : overwritten := ⟨line, y, j, k, g, rs, hc, carried, congrArg Fin.val segment, hr⟩
      exact ⟨fun _ => .inr (.inl ho), fun _ => .inr (.inr (.inl ho))⟩

/-- Settles O55: outside the excluded commands no move of the mirror starts in IDLE, and the end of a frame without a close is
that of the bus interface. -/
theorem idleStationAndFrameWithoutCloseChangeNoBlock : Obligations.IdleStationAndFrameWithoutCloseChangeNoBlock := by
  refine ⟨fun c s t h hs hjoin hclear hreset => ?_, fun s u line r closes rejecting hu hc hn => ?_⟩
  · have hm : t.mirror = s.mirror := (exec_mirror h).eq_of_idle hs hjoin hclear hreset
    exact ⟨(congrArg Mirror.state hm).trans hs, congrArg Mirror.records hm, congrArg Mirror.covered hm,
      congrArg Mirror.position hm⟩
  · exact exec_withoutClose hu hc (State.handsClose_receiving hc hn)

/-- Settles O30: the acts at the close, by the station state and by whose frame it is. -/
theorem updateCloseEvaluatesCountsAndSettles : Obligations.UpdateCloseEvaluatesCountsAndSettles := by
  intro s u line own x ticket op i h
  refine ⟨fun hs hown => ?_, fun sub next attempts hs hc hown => ?_, fun ho hfol => ?_⟩
  · subst hown
    exact exec_updateClose h (actUpdate_listens (s := u.afterReceived) ((StationState.listens_iff _).mpr hs)) nofun
  · subst hown
    exact exec_updateClose h (actUpdate_uncovered (s := u.afterReceived) hs ((State.follows_syncing hs i).trans hc)) nofun
  have hf : u.follows i = true := by
    obtain hs | ⟨⟨sub, next, attempts, hs⟩, hc⟩ := hfol
    · exact State.follows_synced hs i
    · exact (State.follows_syncing hs i).trans hc
  refine ⟨fun hown => ?_, fun e rest hown _ hq => ?_⟩
  · subst hown
    have act := actUpdate_received (s := u.afterReceived) (x := x) (ticket := ticket) (op := op) hf ho
    refine ⟨fun hq => exec_updateClose h (act.trans ?_) nofun, fun ha hw hp hn => exec_updateClose h (act.trans ?_) nofun,
      fun ha hw hp hn => exec_updateClose h (act.trans ?_) nofun⟩
    · split
      · next ha => exact State.noteChange_quiet (s := u.afterReceived.changed x ticket op i) (hq.resolve_left (not_not_intro ha)) x
      · rfl
    · exact (if_pos ha).trans (State.noteChange_room (s := u.afterReceived.changed x ticket op i) hw hp hn x)
    · exact (if_pos ha).trans (State.noteChange_full (s := u.afterReceived.changed x ticket op i) hw hp hn.ge x)
  · subst hown
    refine exec_updateClose h ((actUpdate_own (s := u.afterSent _) hf ho).trans ?_) fun _ => rfl
    rw [State.settleHead_cons (s := State.changed (u.afterSent _) _ _ _ _) hq, versionAfter_eq]
    rfl

/-- Settles O31: claims and count first, then the peer unit, whose transfers end unless the station itself is evicted. -/
theorem evictCloseReleasesClaimsAndPeer : Obligations.EvictCloseReleasesClaimsAndPeer := by
  intro s u line own x z h
  have hexec : exec (.evictClose line) s = .next (((u.afterClose own (.evict z)).evicted x z).evictPeer z x) := by
    refine congrArg Host.Outcome.next (State.closeCommitted_eq h (actEvict_evicted ?_ own x z) fun _ => ?_)
    · rw [State.afterClose_sync]; exact State.takesClose_state h
    · rw [State.evictPeer_leavePending, State.evicted_leavePending, State.afterClose_sync]
  rw [State.evictPeer_eq] at hexec
  cases own <;> exact
    ⟨fun hz => hexec.trans (congrArg Host.Outcome.next (if_pos hz)),
      fun hz => hexec.trans (congrArg Host.Outcome.next (if_neg hz))⟩

/-- Settles O32: the acts by the station state; none of them is about leave-pending. -/
theorem wipeCloseBeginsNewLineage : Obligations.WipeCloseBeginsNewLineage := by
  intro s u line own x g h
  refine ⟨fun hs => ?_, fun sub next attempts hs => ?_, fun hs => ?_⟩
  · cases own <;> exact exec_wipeClose h (actWipe_synced (s := u.afterClose _ _) _ x g hs) (by rw [State.postAll_eq])
  · cases own <;> exact exec_wipeClose h (actWipe_syncing (s := u.afterClose _ _) _ x g hs) rfl
  · have hl := (StationState.listens_iff _).mpr hs
    cases own <;> exact exec_wipeClose h (actWipe_listens (s := u.afterClose _ _) _ x g hl) rfl

/-- Settles O37: a SNAPSHOT that a joiner waits for is accepted or restarts the transfer, and every other is disregarded. -/
theorem snapshotCloseAcceptsNextSegment : Obligations.SnapshotCloseAcceptsNextSegment := by
  intro s u line x j k c rs h
  have heard (hl : u.sync.state.listens = false) : u.afterReceived.hearEvidence = u.afterReceived :=
    State.hearEvidence_other (s := u.afterReceived) hl
  refine ⟨fun attempts hs hj => ?_, fun ho => ?_, fun hl => ?_⟩
  · have he := heard (by rw [hs]; rfl)
    refine ⟨fun hp => ?_, fun hk hp => ?_⟩
    · have accepted := State.receiveSegment_accepted (s := u.afterReceived) (rs := rs) hs hj hp
      refine ⟨fun next hn => exec_snapshotReceived h ?_, fun hk hc => exec_snapshotReceived h ?_⟩
      · rw [he, accepted, State.acceptSegment_next _ next hn]; rfl
      · rw [he, accepted]; exact State.acceptSegment_last (s := { u.afterReceived with sync := _ }) _ hk hc
    · refine exec_snapshotReceived h ?_
      rw [he, State.receiveSegment_restarts (s := u.afterReceived) hs hj hk hp]
      exact State.retry_eq _ 0 attempts
  · have hn : u.sync.state.listens = false := by
      obtain hs | ⟨_, _, hs⟩ | ⟨_, _, _, hs, _⟩ := ho <;> rw [hs] <;> rfl
    refine exec_snapshotReceived h ((congrArg (State.receiveSegment · x j k c rs) (heard hn)).trans ?_)
    refine State.receiveSegment_other fun d next attempts hd => ?_
    have hd : u.sync.state = .syncing (.receiving d) next attempts := hd
    obtain hs | ⟨_, _, hs⟩ | ⟨_, _, _, hs, hne⟩ := ho <;> cases hd.symm.trans hs
    rintro ⟨hj, hx, hk⟩
    exact hne.elim (absurd hj) (Or.elim · (absurd hx.symm) (absurd hk.symm))
  · have hl := (StationState.listens_iff _).mpr hl
    refine exec_snapshotReceived h ?_
    rw [State.hearEvidence_listens (s := u.afterReceived) hl]
    refine State.receiveSegment_other fun d next attempts hd => ?_
    have hd : u.sync.state = .syncing (.receiving d) next attempts := hd
    rw [hd] at hl
    cases hl

end Sys2Proof

/-! ## Ordered frames and the commit point: the line, the closes, the streaks and what every step keeps

The laws first, in the order of the model; the statements follow at the end. -/

namespace Sys2Proof.Machine

-- One theorem after another: waiting for each other on many threads they come close to the memory limit.
set_option Elab.async false

/-! ### A spoil due past the end delimiter

The roles ask of a spoil that is due that the own frame is on the line, not that its readback has still a bit to compare. -/

/-- A LISTEN station inside the reject slot of its own PRESENCE, a spoil of it due and its command at the front of the queue. -/
def spoilDueInSlot : State :=
  { State.reset with
    sync    := { SyncController.reset with state := .listen, listenTimer := some 30 }
    peers   := { PeerUnit.reset with presenceTimer := some 10 }
    bus     :=
      { BusInterface.reset with
        inStep  := true
        current :=
          .own
            { frame    := .presence 1 10 carriedZero
              position := (sentBits 0 (.presence 1 10 carriedZero)).length + 1
              spoil    := none
              rejected := false }
        due     := some .spoiled }
    pending := [.spoiledFrame []] }

theorem spoilDueInSlot_rolesOk : spoilDueInSlot.RolesOk where
  entries     := fun h => absurd rfl h
  held        := fun h => nomatch h
  wipe        := fun h => nomatch h
  donor       := fun h => nomatch h
  offer       := fun h => nomatch h
  request     := fun h => nomatch h
  evict       := fun x h => by cases (State.reset_entries x ▸ h : Peer.fresh.evictPending = true)
  listenTimer := rfl
  offerTimer  := fun h => nomatch h
  segment     := rfl
  presence    := rfl
  pending     := fun h => nomatch h
  leave       := fun h => nomatch h
  flight      := fun _ h => nomatch h
  step        := fun _ => rfl
  closes      := fun _ _ h => nomatch h
  rejects     := fun _ _ h => nomatch h
  due         := ⟨_, rfl, rfl⟩

theorem spoilDueInSlot_headInFlightOk : spoilDueInSlot.headInFlightOk := by
  intro o ticket op index hc hf
  cases hc
  cases hf

theorem spoilDueInSlot_rangesOk : spoilDueInSlot.RangesOk :=
  { State.reset_rangesOk with
    rejects := fun _ _ h => nomatch h
    fill    := fun o count hc hs => by cases hc; cases hs
    sent    := fun o hc => by cases hc; exact .inl (Nat.le_refl _)
    slot    := fun _ _ _ h => nomatch h }

/-- A readback two bits past the own end delimiter is out of its range, but where the close is due. -/
theorem State.RangesOk.position_ne {s : State} {o : OwnFrame} (h : s.RangesOk) (hc : s.bus.current = .own o)
    (hd : s.bus.due ≠ some .close) : o.position ≠ (sentBits s.straps.number o.frame).length + 2 := by
  have := (h.sent o hc).resolve_right fun h => hd h.2
  omega

/-! ### LEAVE (R91) -/

section
variable {s : State}

theorem leaveReply_idle (h : s.sync.state = .idle) : leaveReply s = ⟨.state, [], s⟩ := by
  simp [leaveReply, h, refuse]

theorem leaveReply_busy (h : s.sync.state ≠ .idle) (hl : s.sync.leavePending = true) : leaveReply s = ⟨.busy, [], s⟩ := by
  simp [leaveReply, h, hl, refuse]

theorem leaveReply_inFlight (h : s.sync.state ≠ .idle) (hl : s.sync.leavePending = false) (ho : s.ownInFlight = true) :
    leaveReply s = ⟨.ok, [], { s with sync := { s.sync with leavePending := true } }⟩ := by
  simp [leaveReply, h, hl, ho]

theorem leaveReply_leaves (h : s.sync.state ≠ .idle) (hl : s.sync.leavePending = false) (ho : s.ownInFlight = false) :
    leaveReply s = ⟨.ok, [], s.nowIdle⟩ := by
  simp [leaveReply, h, hl, ho, State.goIdle_eq]

/-- LEAVE at a ready port is answered with its reply. -/
theorem exec_leave {reply : Reply} (hr : s.hostReady) (h : leaveReply s = reply) :
    exec .leave s = .next (reply.state.replied (statusCode reply.status) reply.bytes) := by
  subst h
  exact congrArg Host.Outcome.next (State.takeCommand_ready hr 0 leaveReply)

end

/-! ### The own frame's readback (R149, R150) -/

/-- The levels bring the own frame to its mismatch: LOST_ARBITRATION, with the leave that was waiting (R93). -/
theorem exec_lostArbitration {s u : State} {line : Levels} {o : OwnFrame} (hu : s.heard line = some (.lostArbitration, u))
    (ho : u.bus.current = .own o) :
    exec (.lostArbitration line) s = .next
      (if u.sync.leavePending then
        State.nowIdle { u with bus := u.bus.loseArbitration o u.number, selector := { u.selector with winStreak := 0 } }
       else { u with bus := u.bus.loseArbitration o u.number, selector := { u.selector with winStreak := 0 } }) := by
  show execLostArbitration line s = _
  simp only [execLostArbitration, hu, ho, State.goIdle_eq]

theorem exec_spoiledFrame {s u : State} {line : Levels} {o : OwnFrame} (hu : s.heard line = some (.spoiled, u))
    (ho : u.bus.current = .own o) :
    exec (.spoiledFrame line) s = .next
      { u with bus := { u.bus with current := .own { o with position := o.position + 1, spoil := some 0 } } } := by
  show execSpoiledFrame line s = _
  simp only [execSpoiledFrame, hu, ho]

section
variable {e : Ear} {bus : BusInterface} {o : OwnFrame} {b : Bool}

theorem BusInterface.hear_own (hc : bus.current = .own o) : bus.hear e b = bus.hearOwn e o b := by
  simp only [BusInterface.hear, hc]

theorem BusInterface.hearOwn_match (h : o.position < (sentBits e.number o.frame).length) (hs : o.spoil = none)
    (hb : b = (sentBits e.number o.frame)[o.position]) :
    bus.hearOwn e o b = { bus with recessiveRun := 0, current := .own { o with position := o.position + 1 } } := by
  simp [BusInterface.hearOwn, h, hs, hb]

theorem BusInterface.hearOwn_loses (h : o.position < (sentBits e.number o.frame).length) (hs : o.spoil = none)
    (hb : b ≠ (sentBits e.number o.frame)[o.position]) (hk : o.position ≤ keyEnd e.number o.frame.kind) :
    bus.hearOwn e o b = { bus with due := some .lostArbitration } := by
  simp only [BusInterface.hearOwn, List.getElem?_eq_getElem h, hs, if_neg hb, if_pos hk]

theorem BusInterface.hearOwn_spoils (h : o.position < (sentBits e.number o.frame).length) (hs : o.spoil = none)
    (hb : b ≠ (sentBits e.number o.frame)[o.position]) (hk : keyEnd e.number o.frame.kind < o.position) :
    bus.hearOwn e o b = { bus with due := some .spoiled } := by
  simp only [BusInterface.hearOwn, List.getElem?_eq_getElem h, hs, if_neg hb, if_neg (Nat.not_le_of_lt hk)]

theorem BusInterface.hearOwn_spoiled {count : Nat} (h : o.position < (sentBits e.number o.frame).length)
    (hs : o.spoil = some count) :
    bus.hearOwn e o b = { bus with current := .own { o with position := o.position + 1, spoil := some (fillNext count b) } } := by
  simp [BusInterface.hearOwn, h, hs]

theorem BusInterface.hearOwn_slot (h : (sentBits e.number o.frame).length ≤ o.position) :
    bus.hearOwn e o b = bus.hearOwnSlot e o b := by
  simp [BusInterface.hearOwn, h]

end

section
variable {o : OwnFrame} {number : Station} {due : Option LineEvent} {count : Nat}

theorem OwnFrame.nextLevel_fill (hs : o.spoil = some count) (h : o.position + 3 < (sentBits number o.frame).length) :
    o.nextLevel number due = decide (count ≠ 10) := by
  simp only [OwnFrame.nextLevel, hs, if_pos h]
  rfl

/-- From its end delimiter on a spoiled sender drives recessive, and then both slot bits dominant. -/
theorem OwnFrame.nextLevel_tail (hs : o.spoil = some count) (h : (sentBits number o.frame).length ≤ o.position + 3)
    (hp : o.position < (sentBits number o.frame).length + 2) :
    o.nextLevel number due = decide (o.position < (sentBits number o.frame).length) := by
  simp [OwnFrame.nextLevel, hs, Nat.not_lt_of_le h, Nat.not_le_of_lt hp]

end

/-- What the sender drives, by its readback and the mismatch that is due. -/
theorem State.mbtx_own {s : State} {o : OwnFrame} (h : s.bus.current = .own o) :
    s.mbtx = o.nextLevel s.straps.number s.bus.due := by
  simp only [State.mbtx, h]
  rfl

/-! ### DISCARDED and bad frames at their close -/

/-- The own frame ends as its readback and its slot say (R30, R38). -/
theorem State.closing_own {s u : State} {line : Levels} {o : OwnFrame} (hu : s.heard line = some (.close, u))
    (hc : u.bus.current = .own o) :
    s.closing line = some
      (if o.spoil.isSome = true ∨ o.rejected = true then .discarded ⟨u.number, true, o.frame⟩ o.spoil.isSome
       else .committed ⟨u.number, true, o.frame⟩, u) := by
  rw [State.closing_eq hu, hc]
  cases hs : o.spoil <;> cases hr : o.rejected <;> simp [Current.ending, hs, hr]

theorem State.raiseSpoil_eq (s : State) : s.raiseSpoil = s.spoilCounted true := by
  unfold State.raiseSpoil State.spoilCounted
  by_cases h3 : s.bus.spoilStreak < 3
  · by_cases h2 : s.bus.spoilStreak = 2
    · simp [h2]
    · simp [h3, h2, Nat.not_le_of_lt h3, show s.bus.spoilStreak + 1 ≠ 3 by omega]
  · simp [h3, Nat.le_of_not_lt h3]

@[simp] theorem State.spoilCounted_false (s : State) : s.spoilCounted false = s := if_pos (.inl rfl)

/-- The own DISCARDED close: the line's part, then the source's, then the spoil streak, then a deferred leave (R33, R38, R151). -/
theorem exec_discardedOwn {s u : State} {line : Levels} {o : OwnFrame} (h : s.sendsFrame line o u)
    (hd : o.spoil.isSome = true ∨ o.rejected = true) :
    exec (.discardedClose line) s = .next
      (((((u.afterDiscarded o.frame o.spoil.isSome).settleDiscarded o.frame).spoilCounted o.spoil.isSome)).afterOwnClose
        true) := by
  obtain ⟨hu, hs, hc⟩ := h
  have hands : u.handsClose = true := by simp [State.handsClose, hs, hc]
  show execDiscardedClose line s = _
  simp only [execDiscardedClose, State.closing_own hu hc, if_pos hd, if_pos hands]
  cases hsp : o.spoil.isSome with
  | true => simp only [if_true, State.spoiledClose, State.raiseSpoil_eq]; rfl
  | false => simp only [State.rejectedClose, State.spoilCounted_false]; rfl

/-- A receiver lets a DISCARDED frame go (R29, R33). -/
theorem exec_discardedReceived {s u : State} {line : Levels} {r : Reader} {rejecting : Bool}
    (h : s.hearsFrame line r rejecting u) (hd : r.discarded.isSome = true) :
    exec (.discardedClose line) s = .next u.afterReceived := by
  obtain ⟨hu, hs, hc⟩ := h
  obtain ⟨⟨x, f⟩, hd⟩ := Option.isSome_iff_exists.mp hd
  have hands : u.handsClose = true := by simp [State.handsClose, hs, hc]
  show execDiscardedClose line s = _
  simp only [execDiscardedClose, (State.closing_receiving hu hc).2.1 x f hd, if_pos hands]
  rfl

theorem exec_badFrameClose {s u : State} {line : Levels} {r : Reader} {rejecting : Bool} (h : s.hearsFrame line r rejecting u)
    (hb : r.bad = true) : exec (.badFrameClose line) s = .next (u.badClose rejecting) := by
  obtain ⟨hu, hs, hc⟩ := h
  have hands : u.handsClose = true := by simp [State.handsClose, hs, hc]
  show execBadFrameClose line s = _
  simp only [execBadFrameClose, (State.closing_receiving hu hc).1 hb, if_pos hands]

/-- A bad frame has ended, its slot not driven (R34, R145, R154). -/
def State.afterBad (s : State) : State :=
  { s with
    bus      := { s.bus with current := .idle, recessiveRun := 0, badTail := true, slotDriven := false }
    selector := { s.selector with winStreak := 0 } }

theorem State.badClose_rejecting (s : State) :
    s.badClose true =
      { s.afterBad with bus := { s.afterBad.bus with slotDriven := true, rejectStreak := s.bus.rejectStreak + 1 } } := rfl

theorem State.badClose_spent {s : State} (hs : s.sync.state = .synced) (hb : s.port.inEffect.rejectBudget ≤ s.bus.rejectStreak) :
    s.badClose false = s.afterBad.outOfSynced .missedFrame :=
  (if_pos ⟨hs, hb⟩).trans (State.leaveSynced_eq ..)

theorem State.badClose_kept {s : State} (h : s.sync.state ≠ .synced ∨ s.bus.rejectStreak < s.port.inEffect.rejectBudget) :
    s.badClose false = s.afterBad :=
  if_neg fun hn => h.elim (· hn.1) fun hlt => Nat.not_le_of_lt hlt hn.2

/-! ### The reject decision (R34, R141) -/

section
variable {e : Ear} {bus : BusInterface} {r : Reader} {closes rejecting b : Bool}

theorem BusInterface.hear_receiving (hc : bus.current = .receiving r closes rejecting) :
    bus.hear e b = bus.hearFrame e r closes rejecting b := by
  simp only [BusInterface.hear, hc]

/-- One level of a received frame, by how many levels after its last CRC bit have been read. -/
theorem BusInterface.hearFrame_eq :
    bus.hearFrame e r closes rejecting b =
      if (r.hear b).tail.length = 0 then
        { bus with
          current := .receiving (r.hear b) closes rejecting
          due     := if 11 ≤ (r.hear b).recessive then some (.lostPlace .elevenRecessive) else none }
      else if (r.hear b).tail.length = 3 then
        { bus with current := .receiving (r.hear b) closes (bus.rejects e (r.hear b) closes) }
      else if (r.hear b).tail.length = 5 then
        { bus with current := .receiving (r.hear b) closes rejecting, due := some .close }
      else { bus with current := .receiving (r.hear b) closes rejecting } := by
  unfold BusInterface.hearFrame
  generalize r.hear b = read
  obtain ⟨fields, left, placed, run, tail, recessive⟩ := read
  match tail with
  | [] | [_] | [_, _] | [_, _, _] | [_, _, _, _] | [_, _, _, _, _] => rfl
  | _ :: _ :: _ :: _ :: _ :: _ :: tail => simp

/-- At the end delimiter a SYNCED station rejects a bad frame that has a close here, while it has budget left (R34, R141). -/
theorem BusInterface.rejects_iff :
    bus.rejects e r closes = true ↔ closes = true ∧ e.synced = true ∧ r.bad = true ∧ bus.rejectStreak < e.budget := by
  simp [BusInterface.rejects, and_assoc]

end

/-- A receiver drives the slot of a frame that it rejects, and nothing else (R34, R141). -/
theorem State.mbtx_receiving {s : State} {r : Reader} {closes rejecting : Bool}
    (h : s.bus.current = .receiving r closes rejecting) :
    s.mbtx = !(rejecting && decide (3 ≤ r.tail.length ∧ r.tail.length < 5)) := by
  simp only [State.mbtx, h]

/-! ### PRESENCE under the own number (R31, R121) -/

theorem reportedOf_eq_synced (st : Byte) : reportedOf st = some .synced ↔ st = 3 := by
  constructor
  · intro h
    unfold reportedOf at h
    split at h <;> [cases h; (split at h <;> [cases h; (split at h <;> [assumption; (split at h <;> cases h)])])]
  · rintro rfl; rfl

section
variable {s : State} {st iv : Byte} {c : Carried}

theorem State.hearPeer_self : s.hearPeer s.number st iv c = s := if_pos rfl

theorem State.setRelation_self (r : Relation) : s.setRelation s.number r = s := if_pos rfl

theorem State.hearLower_self (r : Option Reported) : s.hearLower s.number r = s := if_neg fun h => lt_irrefl _ h.1

/-- Of a PRESENCE under the own number only the sync controller takes notice. -/
theorem actPresence_self :
    actPresence ⟨s.number, false, .presence st iv c⟩ s = s.weighPresence s.number (reportedOf st) c := by
  simp [actPresence, State.hearPeer_self]

theorem State.weighPresence_synced {r : Option Reported} (hs : s.sync.state = .synced) :
    s.weighPresence s.number r c =
      if r = some .synced ∧ comparePositions c s.sync.position.carried = .ahead then s.outOfSynced .behind else s := by
  simp only [State.weighPresence, hs, State.compareWith, State.setRelation_self, State.leaveSynced_eq]
  cases comparePositions c s.sync.position.carried <;> simp

theorem State.weighPresence_listen {r : Option Reported} (hs : s.sync.state = .listen) :
    s.weighPresence s.number r c =
      if r = some .synced then { s with sync := { s.sync with evidenceHeard := true } } else s := by
  simp only [State.weighPresence, hs, State.setRelation_self, State.hearLower_self, State.hearEvidence]

theorem State.weighPresence_stranded {r : Option Reported} (hs : s.sync.state = .stranded) :
    s.weighPresence s.number r c = if r = some .synced then s.nowRequesting .syncedPeerHeard else s := by
  simp only [State.weighPresence, hs, State.setRelation_self, State.hearLower_self]
  rfl

theorem State.weighPresence_syncing {r : Option Reported} {sub : SubState} {next : Segment} {attempts : Nat}
    (hs : s.sync.state = .syncing sub next attempts) : s.weighPresence s.number r c = s := by
  simp only [State.weighPresence, hs, State.setRelation_self]

end

/-- PRESENCE_CLOSE of another station's frame runs the acts. -/
theorem exec_presenceReceived {s u t : State} {line : Levels} {x : Station} {st iv : Byte} {c : Carried}
    (h : s.takesClose line false x (.presence st iv c) u)
    (ht : actPresence ⟨x, false, .presence st iv c⟩ u.afterReceived = t) : exec (.presenceClose line) s = .next t :=
  congrArg Host.Outcome.next (State.closeCommitted_eq h ht nofun)

/-! ### The donor's own SNAPSHOT (R106) -/

section
variable {s : State} {d : DonorRecord}

theorem State.settleSegment_none (h : s.sync.donor = none) : s.settleSegment = s := by simp [State.settleSegment, h]

theorem State.settleSegment_next (h : s.sync.donor = some d) {next : Segment} (hn : next.val = d.next.val + 1) :
    s.settleSegment = { s with sync := { s.sync with donor := some ⟨d.joiner, next, 0⟩ } } := by
  have hlt : d.next.val < 15 := by omega
  have hnext : next = ⟨d.next.val + 1, by omega⟩ := Fin.ext hn
  simp [State.settleSegment, h, hlt, hnext]

theorem State.settleSegment_last (h : s.sync.donor = some d) (hn : d.next.val = 15) :
    s.settleSegment = State.post { s with sync := { s.sync with donor := none } } (.donorEnded d.joiner .done) := by
  simp [State.settleSegment, State.endServing, h, hn]

theorem State.failSegment_none (h : s.sync.donor = none) : s.failSegment = s := by simp [State.failSegment, h]

theorem State.failSegment_below (h : s.sync.donor = some d) (hn : d.attempts + 1 < s.port.inEffect.retryLimit) :
    s.failSegment = { s with sync := { s.sync with donor := some { d with attempts := d.attempts + 1 } } } := by
  simp [State.failSegment, h, hn]

theorem State.failSegment_last (h : s.sync.donor = some d) (hn : d.attempts + 1 = s.port.inEffect.retryLimit) :
    s.failSegment = State.post { s with sync := { s.sync with donor := none } } (.donorEnded d.joiner .failed) := by
  simp [State.failSegment, State.endServing, h, hn]

end

/-- Five kinds of source let a DISCARDED frame of theirs stay pending (R33). -/
theorem State.settleDiscarded_pending (s : State) {f : Frame} (hu : f.kind ≠ .update) (hs : f.kind ≠ .snapshot) :
    s.settleDiscarded f = s := by
  cases f with
  | update => exact absurd rfl hu
  | snapshot => exact absurd rfl hs
  | _ => rfl

@[simp] theorem State.spoilCounted_sync (s : State) (spoiled : Bool) : (s.spoilCounted spoiled).sync = s.sync := by
  unfold State.spoilCounted; split <;> [rfl; (split <;> rfl)]

/-- The own DISCARDED close where no leave is pending, the source's part being `t`. -/
theorem exec_discardedOwn_eq {s u t : State} {line : Levels} {o : OwnFrame} (h : s.sendsFrame line o u)
    (hd : o.spoil.isSome = true ∨ o.rejected = true)
    (ht : (u.afterDiscarded o.frame o.spoil.isSome).settleDiscarded o.frame = t) (hl : t.sync.leavePending = false) :
    exec (.discardedClose line) s = .next (t.spoilCounted o.spoil.isSome) := by
  rw [exec_discardedOwn h hd, ht, State.afterOwnClose_eq (.inr (by rwa [State.spoilCounted_sync]))]

/-- An own frame committed with no leave pending is a close the station takes. -/
theorem State.sendsFrame_takesClose {s u : State} {line : Levels} {o : OwnFrame} (h : s.sendsFrame line o u)
    (hs : o.spoil = none) (hr : o.rejected = false) (hl : u.sync.leavePending = false) :
    s.takesClose line true u.number o.frame u :=
  ⟨o, h, rfl, hs, hr, hl, rfl⟩

/-- SNAPSHOT_CLOSE of a SYNCED donor's own frame settles its segment. -/
theorem exec_snapshotSent {s u t : State} {line : Levels} {x j : Station} {k : Segment} {c : Carried} {rs : Vector Rec 16}
    (h : s.takesClose line true x (.snapshot j k c rs) u) (hs : u.sync.state = .synced)
    (ht : (u.afterSent (.snapshot j k c rs)).settleSegment = t) (hl : t.sync.leavePending = u.sync.leavePending) :
    exec (.snapshotClose line) s = .next t := by
  refine congrArg Host.Outcome.next (State.closeCommitted_eq h (Eq.trans ?_ ht) fun _ => hl)
  exact congrArg State.settleSegment (State.hearEvidence_other (s := u.afterSent _) (congrArg StationState.listens hs))

/-! ### The digest register (R42) -/

/-- The register's shift is linear: of a sum, the sum of the shifts. -/
theorem foldShift_xor (a b : Word) : foldShift (a ^^^ b) = foldShift a ^^^ foldShift b := by
  unfold foldShift
  rw [BitVec.msb_xor, BitVec.shiftLeft_xor_distrib]
  cases a.msb <;> cases b.msb <;> simp [BitVec.xor_assoc, BitVec.xor_comm 79764919#32]

/-- The generator's lowest bit tells whether a 1 has left the register. -/
theorem foldShift_lowest (r : Word) : (foldShift r).getLsbD 0 = r.msb := by
  unfold foldShift
  cases r.msb <;> simp

/-- No two registers shift to the same one. -/
theorem foldShift_injective : Function.Injective foldShift := by
  intro a b h
  have hm : a.msb = b.msb := by rw [← foldShift_lowest, h, foldShift_lowest]
  have hs : a <<< 1 = b <<< 1 := by
    unfold foldShift at h
    rw [hm] at h
    split at h
    · exact (BitVec.xor_left_inj _).mp h
    · exact h
  refine BitVec.eq_of_getLsbD_eq fun i hi => ?_
  obtain rfl | hlt : i = 31 ∨ i < 31 := by omega
  · simpa [BitVec.msb_eq_getLsbD_last] using hm
  · have := congrArg (BitVec.getLsbD · (i + 1)) hs
    simpa only [BitVec.getLsbD_shiftLeft, show i + 1 < 32 by omega, decide_true, Bool.true_and, Nat.add_sub_cancel,
      Nat.lt_add_left_iff_pos, Nat.not_lt.mpr (Nat.le_add_left 1 i), decide_false, Bool.not_false] using this

/-- A byte in the digest register, `k` places up. -/
def placedByte (k : Nat) (b : Byte) : Word := b.setWidth 32 <<< k

/-- A register whose `n` top bits are 0 shifts `n` times without the generator. -/
theorem foldShift_iterate_quiet (n : Nat) {r : Word} (h : r.toNat * 2 ^ n < 2 ^ 32) : foldShift^[n] r = r <<< n := by
  induction n generalizing r with
  | zero => simp
  | succ n ih =>
    have hr : r.toNat * 2 < 2 ^ 32 := by
      refine lt_of_le_of_lt ?_ h
      exact Nat.mul_le_mul_left _ (Nat.le_self_pow (Nat.succ_ne_zero n) 2)
    have hm : r.msb = false := by simp [BitVec.msb_eq_false_iff_two_mul_lt]; omega
    have hs : (r <<< 1).toNat = r.toNat * 2 := by
      rw [BitVec.toNat_shiftLeft, Nat.shiftLeft_eq, pow_one, Nat.mod_eq_of_lt hr]
    rw [Function.iterate_succ_apply, foldShift, hm, if_neg Bool.false_ne_true, ih, ← BitVec.shiftLeft_add, Nat.add_comm]
    rw [hs, Nat.mul_assoc, ← Nat.pow_succ']
    exact h

/-- Eight shifts move a byte that is not yet at the top up by eight places. -/
theorem foldShift_placedByte (b : Byte) {k : Nat} (hk : k ≤ 16) : foldShift^[8] (placedByte k b) = placedByte (k + 8) b := by
  rw [foldShift_iterate_quiet, placedByte, placedByte, BitVec.shiftLeft_add]
  have hb : b.toNat * 2 ^ k < 2 ^ 24 := by
    calc b.toNat * 2 ^ k < 2 ^ 8 * 2 ^ k := Nat.mul_lt_mul_of_pos_right b.isLt (Nat.two_pow_pos k)
      _ ≤ 2 ^ 8 * 2 ^ 16 := Nat.mul_le_mul_left _ (Nat.pow_le_pow_right (by decide) hk)
  have := b.isLt
  simp only [placedByte, BitVec.toNat_shiftLeft, BitVec.toNat_setWidth, Nat.shiftLeft_eq]
  rw [Nat.mod_eq_of_lt (show b.toNat < 2 ^ 32 by omega), Nat.mod_eq_of_lt (by omega)]
  omega

/-- A byte taken into the register: eight shifts after it has joined the top (R42). -/
theorem foldByte_eq (r : Word) (b : Byte) : foldByte r b = foldShift^[8] (r ^^^ placedByte 24 b) := rfl

theorem placedByte_top (b : Byte) : placedByte 24 b = b ++ (0 : BitVec 24) := by
  refine BitVec.eq_of_getLsbD_eq fun i hi => ?_
  simp only [placedByte, BitVec.getLsbD_shiftLeft, BitVec.getLsbD_setWidth, BitVec.getLsbD_append]
  grind

theorem foldShift_iterate_xor (n : Nat) (a b : Word) : foldShift^[n] (a ^^^ b) = foldShift^[n] a ^^^ foldShift^[n] b := by
  induction n generalizing a b with
  | zero => rfl
  | succ n ih => rw [Function.iterate_succ_apply, foldShift_xor, ih]; rfl

/-- A byte taken into a register already shifted is one that joined it lower down, before those shifts. -/
theorem foldByte_iterate {n k : Nat} (r : Word) (b : Byte) (h : foldShift^[n] (placedByte k b) = placedByte 24 b) :
    foldByte (foldShift^[n] r) b = foldShift^[n + 8] (r ^^^ placedByte k b) := by
  rw [foldByte_eq, ← h, ← foldShift_iterate_xor, Nat.add_comm, Function.iterate_add_apply]

/-- Four bytes are one word that joins the register before all 32 shifts. -/
theorem foldDigest_four (digest : Word) (b0 b1 b2 b3 : Byte) :
    foldDigest digest [b0, b1, b2, b3] = foldShift^[32] (digest ^^^ wordOf b0 b1 b2 b3) := by
  have up16 (b : Byte) : foldShift^[8] (placedByte 16 b) = placedByte 24 b := foldShift_placedByte b (by decide)
  have up8 (b : Byte) : foldShift^[16] (placedByte 8 b) = placedByte 24 b := by
    rw [Function.iterate_add_apply _ 8 8, foldShift_placedByte b (by decide), up16]
  have up0 (b : Byte) : foldShift^[24] (placedByte 0 b) = placedByte 24 b := by
    rw [Function.iterate_add_apply _ 16 8, foldShift_placedByte b (by decide), up8]
  have word : wordOf b0 b1 b2 b3 = placedByte 24 b0 ^^^ placedByte 16 b1 ^^^ placedByte 8 b2 ^^^ placedByte 0 b3 := by
    refine BitVec.eq_of_getLsbD_eq fun i hi => ?_
    simp only [placedByte, wordOf, BitVec.getLsbD_append, BitVec.getLsbD_xor, BitVec.getLsbD_shiftLeft, BitVec.getLsbD_setWidth]
    grind
  calc foldDigest digest [b0, b1, b2, b3]
      = foldByte (foldByte (foldByte (foldShift^[8] (digest ^^^ placedByte 24 b0)) b1) b2) b3 := rfl
    _ = foldShift^[32] (digest ^^^ placedByte 24 b0 ^^^ placedByte 16 b1 ^^^ placedByte 8 b2 ^^^ placedByte 0 b3) := by
      rw [foldByte_iterate _ b1 (up16 b1), foldByte_iterate _ b2 (up8 b2), foldByte_iterate _ b3 (up0 b3)]
    _ = foldShift^[32] (digest ^^^ wordOf b0 b1 b2 b3) := by rw [word]; simp only [BitVec.xor_assoc]

/-- The four bytes of a word read back. -/
theorem wordBytes_wordOf (b3 b2 b1 b0 : Byte) : wordBytes (wordOf b3 b2 b1 b0) = [b3, b2, b1, b0] := by
  have byte {k : Nat} {b : Byte} (h : ∀ i, i < 8 → (wordOf b3 b2 b1 b0).getLsbD (k + i) = b.getLsbD i) :
      (wordOf b3 b2 b1 b0).extractLsb' k 8 = b :=
    BitVec.eq_of_getLsbD_eq fun i hi => by simpa [hi] using h i hi
  unfold wordBytes
  rw [byte (b := b3), byte (b := b2), byte (b := b1), byte (b := b0)]
  all_goals
    intro i hi
    simp only [wordOf, BitVec.getLsbD_append]
    grind

theorem foldDigest_injective {digest : Word} {a b : List Byte} (ha : a.length = 4) (hb : b.length = 4)
    (h : foldDigest digest a = foldDigest digest b) : a = b := by
  match a, b with
  | [a0, a1, a2, a3], [b0, b1, b2, b3] =>
    rw [foldDigest_four, foldDigest_four] at h
    have hw := (BitVec.xor_right_inj _).mp (foldShift_injective.iterate 32 h)
    rw [← wordBytes_wordOf, hw, wordBytes_wordOf]

/-! ### What can change the position -/

/-- The station states in which ordered frames are counted (R41). -/
abbrev StationState.counts (st : StationState) : Prop := st = .synced ∨ ∃ sub next attempts, st = .syncing sub next attempts

section
variable (m : Mirror)

theorem Mirror.counted_position (bytes : List Byte) :
    (m.counted bytes).position = m.position ∨
      m.state.counts ∧ m.position.origin.isSome = true ∧ (m.counted bytes).position = m.position.advance bytes := by
  unfold Mirror.counted
  split
  · next hs => split <;> [(next ho => exact .inr ⟨.inl hs, ho, rfl⟩); exact .inl rfl]
  · next sub next attempts hs => split <;> [(next ho => exact .inr ⟨.inr ⟨_, _, _, hs⟩, ho, rfl⟩); exact .inl rfl]
  · exact .inl rfl

theorem Mirror.updated_position (x : Station) (op : Op) (i : Index) : (m.updated x op i).position = m.position := by
  unfold Mirror.updated; split <;> rfl

theorem Mirror.updated_state (x : Station) (op : Op) (i : Index) : (m.updated x op i).state = m.state := by
  unfold Mirror.updated; split <;> rfl

theorem Mirror.attempted_position (next : Segment) (attempts : Nat) :
    (m.attempted next attempts).position = m.position ∨ (m.attempted next attempts).position = Position.none := by
  unfold Mirror.attempted; split <;> [exact .inl rfl; exact .inr rfl]

theorem Mirror.donorLost_position (x : Station) :
    (m.donorLost x).position = m.position ∨ (m.donorLost x).position = Position.none := by
  unfold Mirror.donorLost
  split <;> [(split <;> [exact m.attempted_position _ _; exact .inl rfl]); exact .inl rfl]

theorem Mirror.wiped_position (x : Station) (g : Half) :
    (m.wiped x g).position = m.position ∨ m.state.counts ∧ (m.wiped x g).position = ⟨g, some x, 0, 0⟩ := by
  unfold Mirror.wiped
  split
  · next hs => exact .inr ⟨.inl hs, rfl⟩
  · next hs => exact .inr ⟨.inr ⟨_, _, _, hs⟩, rfl⟩
  · exact .inl rfl

theorem Mirror.weighed_position (r : Option Reported) (c : Carried) :
    (m.weighed r c).position = m.position ∨ (m.weighed r c).position = Position.none := by
  unfold Mirror.weighed
  split <;> [split; split; skip] <;> [exact .inr rfl; exact .inl rfl; exact .inr rfl; exact .inl rfl; exact .inl rfl]

theorem Mirror.offered_position (number x j : Station) (k : Segment) : (m.offered number x j k).position = m.position := by
  unfold Mirror.offered; split <;> [split; skip] <;> rfl

theorem Mirror.advanced_position (d : Station) (k : Segment) (attempts : Nat) :
    (m.advanced d k attempts).position = m.position := by
  unfold Mirror.advanced; split <;> [skip; split] <;> rfl

/-- A joiner takes the position of the first segment over, keeps its own at a later one, and drops it where they differ. -/
theorem Mirror.received_position (number x j : Station) (k : Segment) (c : Carried) (rs : Vector Rec 16) :
    (m.received number x j k c rs).position = m.position ∨ (m.received number x j k c rs).position = Position.none ∨
      k = 0 ∧ (∃ attempts, m.state = .syncing (.receiving x) 0 attempts) ∧
        (m.received number x j k c rs).position = positionOf c := by
  unfold Mirror.received
  split
  · next d next attempts hs =>
    split
    · next hj =>
      obtain ⟨_, rfl, rfl⟩ := hj
      split <;> [skip; split]
      · next hk =>
        subst hk
        exact .inr (.inr ⟨rfl, ⟨attempts, hs⟩, Mirror.advanced_position ..⟩)
      · exact .inl (Mirror.advanced_position ..)
      · exact .inr (.inl ((Mirror.attempted_position _ _ _).elim id id))
    · exact .inl rfl
  · exact .inl rfl

end

/-- What the close of a committed frame can do to the position of a station: nothing, count the frame, begin a lineage, adopt a
first segment's position, or drop it. -/
inductive Closing.Repositions (cl : Closing) (m : Mirror) : Position → Prop
  | kept : cl.Repositions m m.position
  | dropped (kind : cl.frame.kind = .evict ∨ cl.frame.kind = .presence ∨ cl.frame.kind = .snapshot) :
      cl.Repositions m Position.none
  | updated {ticket : Byte} {op : Op} {i : Index} (frame : cl.frame = .update ticket op i) (counts : m.state.counts)
      (lineage : m.position.origin.isSome = true) :
      cl.Repositions m (m.position.advance (updateFoldBytes cl.sender ticket i))
  | evicted {z : Station} (frame : cl.frame = .evict z) (counts : m.state.counts)
      (lineage : m.position.origin.isSome = true) : cl.Repositions m (m.position.advance (evictFoldBytes cl.sender z))
  | wiped {g : Half} (frame : cl.frame = .wipe g) (counts : m.state.counts) : cl.Repositions m ⟨g, some cl.sender, 0, 0⟩
  | adopted {j : Station} {c : Carried} {rs : Vector Rec 16} {attempts : Nat} (received : cl.own = false)
      (frame : cl.frame = .snapshot j 0 c rs) (waits : m.state = .syncing (.receiving cl.sender) 0 attempts) :
      cl.Repositions m (positionOf c)

theorem Mirror.close_position (m : Mirror) (number : Station) (cl : Closing) :
    cl.Repositions m (m.close number cl).position := by
  obtain ⟨x, own, f⟩ := cl
  have keeps {p : Position} (h : p = m.position) : Closing.Repositions ⟨x, own, f⟩ m p := h ▸ .kept
  cases f with
  | presence state interval c =>
    cases own with
    | true => exact .kept
    | false =>
      obtain h | h := m.weighed_position (reportedOf state) c
      · exact keeps h
      · simp only [Mirror.close, Bool.false_eq_true, if_false, h]
        exact .dropped (.inr (.inl rfl))
  | update ticket op i =>
    obtain h | ⟨hc, hl, h⟩ := (m.updated x op i).counted_position (updateFoldBytes x ticket i)
    · exact keeps (h.trans (m.updated_position x op i))
    · rw [m.updated_state] at hc
      rw [m.updated_position] at hl h
      simp only [Mirror.close, h]
      exact .updated rfl hc hl
  | wipe g =>
    obtain h | ⟨hc, h⟩ := m.wiped_position x g
    · exact keeps h
    · simp only [Mirror.close, h]
      exact .wiped rfl hc
  | evict z =>
    have counted : Closing.Repositions ⟨x, own, .evict z⟩ m ((m.released z).counted (evictFoldBytes x z)).position := by
      obtain h | ⟨hc, hl, h⟩ := (m.released z).counted_position (evictFoldBytes x z)
      · exact keeps h
      · rw [h]; exact .evicted rfl hc hl
    simp only [Mirror.close]
    split
    · exact counted
    · obtain h | h := ((m.released z).counted (evictFoldBytes x z)).donorLost_position z <;> rw [h]
      · exact counted
      · exact .dropped (.inl rfl)
  | syncRequest k => exact .kept
  | offer j k =>
    cases own with
    | true => exact .kept
    | false => exact keeps (m.offered_position ..)
  | snapshot j k c rs =>
    cases own with
    | true => exact .kept
    | false =>
      obtain h | h | ⟨rfl, ⟨attempts, hs⟩, h⟩ := m.received_position number x j k c rs
      · exact keeps h
      · simp only [Mirror.close, Bool.false_eq_true, if_false, h]
        exact .dropped (.inr (.inr rfl))
      · simp only [Mirror.close, Bool.false_eq_true, if_false, h]
        exact .adopted rfl rfl hs

/-- The commands at which a station can drop its position (R44). -/
inductive DropsPosition : Instr → Prop
  | reset {sn : BitVec 4} {br : BitVec 2} {low : Bool} : DropsPosition (.hardReset sn br low)
  | join : DropsPosition .join
  | listen : DropsPosition .listenTimerExpiry
  | expiry {c : Instr} (h : c = .offerTimerExpiry ∨ c = .segmentTimerExpiry ∨ ∃ x, c = .watchTimerExpiry x) : DropsPosition c
  | loss {c : Instr} {line : Levels} (h : c = .lostPlace line ∨ c = .badFrameClose line) : DropsPosition c
  | close {k : Kind} {line : Levels} (h : k = .evict ∨ k = .presence ∨ k = .snapshot) : DropsPosition (closeOf k line)

theorem DropsPosition.command {c : Instr} (h : DropsPosition c) :
    (∃ sn br low, c = .hardReset sn br low) ∨ c = .join ∨ c = .listenTimerExpiry ∨ c = .offerTimerExpiry ∨
      c = .segmentTimerExpiry ∨ (∃ x, c = .watchTimerExpiry x) ∨ (∃ line, c = .lostPlace line) ∨
      (∃ line, c = .evictClose line) ∨
      (∃ line, c = .badFrameClose line ∨ c = .presenceClose line ∨ c = .snapshotClose line) := by
  cases h with
  | reset => simp
  | join => simp
  | listen => simp
  | expiry h => obtain rfl | rfl | ⟨x, rfl⟩ := h <;> simp
  | loss h => obtain rfl | rfl := h <;> simp
  | close h => obtain rfl | rfl | rfl := h <;> simp [closeOf]

/-- A position after a command: as it stood, dropped, that of a founded lineage, or moved by the close of the committed frame that
the levels carry. -/
theorem State.MirrorMove.position_cases {s : State} {c : Instr} {m : Mirror} (h : s.MirrorMove c m) :
    m.position = s.sync.position ∨ (m.position = Position.none ∧ DropsPosition c) ∨
    (m = Mirror.lineage s.number 0 ∧ c = .listenTimerExpiry) ∨
    ∃ (line : Levels) (cl : Closing), c = closeOf cl.frame.kind line ∧ s.carries line cl.own cl.sender cl.frame ∧
      cl.Repositions s.mirror m.position := by
  cases h with
  | kept => exact .inl rfl
  | left => exact .inl rfl
  | reset => exact .inr (.inl ⟨rfl, .reset⟩)
  | cleared => exact .inl rfl
  | joined => exact .inr (.inl ⟨rfl, .join⟩)
  | @closed line cl carried _ => exact .inr (.inr (.inr ⟨line, cl, rfl, carried, s.mirror.close_position s.number cl⟩))
  | @closedAndLeft line cl carried _ => exact .inr (.inr (.inr ⟨line, cl, rfl, carried, s.mirror.close_position s.number cl⟩))
  | missedFrame loss => exact .inr (.inl ⟨rfl, .loss loss⟩)
  | listened => exact .inr (.inl ⟨rfl, .listen⟩)
  | founded => exact .inr (.inr (.inl ⟨rfl, rfl⟩))
  | attempted expiry => exact (s.mirror.attempted_position _ _).imp id fun hp => .inl ⟨hp, .expiry expiry⟩

/-! ### The roles, off the line and on it

What a station holds (its queue, what waits to be sent, its transfers and timers) is moved by the acts of the four blocks; what it
follows on the line is moved by the levels and by the bus interface. The roles are cut along this line, and `State.Acts` says once
what an act can do to either part. -/

/-- What only a SYNCED station may hold (R54, R89, R98, R132). -/
structure State.SyncedOk (s : State) : Prop where
  entries : s.update.outbound ≠ [] → s.sync.state = .synced
  held    : s.update.held = true → s.update.outbound ≠ []
  wipe    : s.sync.wipePending.isSome → s.sync.state = .synced
  donor   : s.sync.donor.isSome → s.sync.state = .synced
  offer   : s.sync.offer.isSome → s.sync.state = .synced
  evict   : ∀ x : Station, s.peers.entries[x].evictPending = true →
              s.sync.state = .synced ∧ s.peers.entries[x].state = .absent

/-- What the station state says of the pending SYNC_REQUEST, the pending PRESENCE and the timers (R95, R97, R122). -/
structure State.TimersOk (s : State) : Prop where
  request     : s.sync.syncRequest = true → s.sync.state.requests = true
  listenTimer : s.sync.listenTimer.isSome = s.sync.state.listens
  offerTimer  : s.sync.offerTimer.isSome → s.sync.state.requests = true
  segment     : s.sync.segmentTimer.isSome = s.sync.state.receives
  presence    : s.peers.presenceTimer.isSome = decide (s.sync.state ≠ .idle)
  pending     : s.peers.presencePending = true → s.sync.state ≠ .idle

/-- The roles off the line. -/
structure State.HoldsOk (s : State) : Prop where
  synced : s.SyncedOk
  timers : s.TimersOk

/-- The roles on the line, with the head in flight (R27, R34, R47, R54, R55, R91). -/
structure State.LineOk (s : State) : Prop where
  leave   : s.sync.leavePending = true → s.ownInFlight = true
  flight  : s.ownInFlight = true → s.sync.state ≠ .idle
  step    : s.bus.current ≠ .idle → s.bus.inStep = true
  closes  : ∀ r rejecting, s.bus.current = .receiving r true rejecting → s.sync.state ≠ .idle
  rejects : ∀ r closes, s.bus.current = .receiving r closes true → closes = true ∧ s.sync.state = .synced
  due     : s.dueOk
  head    : s.headInFlightOk

theorem State.rolesOk_iff (s : State) : s.RolesOk ∧ s.headInFlightOk ↔ s.HoldsOk ∧ s.LineOk :=
  ⟨fun ⟨h, hh⟩ => ⟨⟨{ h with }, { h with }⟩, { h with head := hh }⟩,
    fun ⟨⟨h, ht⟩, hl⟩ => ⟨{ h, ht, hl with }, hl.head⟩⟩

/-- Nothing is held that only a SYNCED station may hold. -/
structure State.EmptyHanded (s : State) : Prop where
  entries : s.update.outbound = []
  held    : s.update.held = false
  wipe    : s.sync.wipePending = none
  donor   : s.sync.donor = none
  offer   : s.sync.offer = none
  evict   : ∀ x : Station, s.peers.entries[x].evictPending = false

theorem State.EmptyHanded.syncedOk {s : State} (h : s.EmptyHanded) : s.SyncedOk where
  entries hn := absurd h.entries hn
  held hn := by simp [h.held] at hn
  wipe hn := by simp [h.wipe] at hn
  donor hn := by simp [h.donor] at hn
  offer hn := by simp [h.offer] at hn
  evict x hn := nomatch (h.evict x).symm.trans hn

theorem State.SyncedOk.emptyHanded {s : State} (h : s.SyncedOk) (hs : s.sync.state ≠ .synced) : s.EmptyHanded :=
  have entries : s.update.outbound = [] := by_contra fun hn => hs (h.entries hn)
  { entries
    held  := Bool.eq_false_iff.mpr fun hn => h.held hn entries
    wipe  := Option.not_isSome_iff_eq_none.mp (mt h.wipe hs)
    donor := Option.not_isSome_iff_eq_none.mp (mt h.donor hs)
    offer := Option.not_isSome_iff_eq_none.mp (mt h.offer hs)
    evict := fun x => Bool.eq_false_iff.mpr fun hn => hs (h.evict x hn).1 }

/-! ### What an act can do -/

/-- What an act of the blocks leaves of the line, and that it keeps the roles off the line: it does not touch the bus interface but
for the reject streak, which it may set to 0, nor leave-pending, and it takes no station into IDLE or out of it. -/
structure State.Acts (s t : State) : Prop where
  line   : t.bus = { s.bus with rejectStreak := t.bus.rejectStreak }
  streak : t.bus.rejectStreak = s.bus.rejectStreak ∨ t.bus.rejectStreak = 0
  leave  : t.sync.leavePending = s.sync.leavePending
  idle   : t.sync.state = .idle ↔ s.sync.state = .idle
  holds  : s.HoldsOk → t.HoldsOk

theorem State.Acts.refl (s : State) : s.Acts s := ⟨rfl, .inl rfl, rfl, Iff.rfl, id⟩

theorem State.Acts.trans {s t u : State} (h : s.Acts t) (h' : t.Acts u) : s.Acts u where
  line   := by rw [h'.line, h.line]
  streak := h'.streak.elim (fun e => e ▸ h.streak) .inr
  leave  := h'.leave.trans h.leave
  idle   := h'.idle.trans h.idle
  holds  := h'.holds ∘ h.holds

/-- An act within a station state. -/
theorem State.Acts.within {s t : State} (hb : t.bus = s.bus) (hl : t.sync.leavePending = s.sync.leavePending)
    (hs : t.sync.state = s.sync.state) (h : s.HoldsOk → t.HoldsOk) : s.Acts t :=
  ⟨hb ▸ rfl, .inl (hb ▸ rfl), hl, hs ▸ Iff.rfl, h⟩

/-- An act that enters a station state, out of IDLE as before. -/
theorem State.Acts.entering {s t : State} (hb : t.bus = { s.bus with rejectStreak := 0 })
    (hl : t.sync.leavePending = s.sync.leavePending) (hs : s.sync.state ≠ .idle) (ht : t.sync.state ≠ .idle)
    (h : s.HoldsOk → t.HoldsOk) : s.Acts t :=
  ⟨hb ▸ rfl, .inr (hb ▸ rfl), hl, iff_of_false ht hs, h⟩

theorem State.Acts.ite {s a b : State} {p : Prop} [Decidable p] (ha : p → s.Acts a) (hb : ¬ p → s.Acts b) :
    s.Acts (if p then a else b) := by
  split <;> [exact ha ‹_›; exact hb ‹_›]

section
variable (s : State)

theorem State.acts_post (e : Event) : s.Acts (s.post e) :=
  .within rfl rfl rfl fun h => ⟨{ h.synced with }, { h.timers with }⟩

theorem State.acts_endServing (why : EndReason) : s.Acts (s.endServing why) := by
  unfold State.endServing
  split
  · exact .refl s
  · exact .within rfl rfl rfl fun h => ⟨{ h.synced with donor := nofun }, { h.timers with }⟩

theorem State.acts_cancel (r : Result) : s.Acts (s.cancel r) :=
  .within rfl rfl rfl fun h => ⟨{ h.synced with entries := fun hn => absurd rfl hn, held := nofun }, { h.timers with }⟩

theorem State.acts_hearEvidence : s.Acts s.hearEvidence := by
  rw [State.hearEvidence_eq]
  exact .ite (fun _ => .within rfl rfl rfl fun h => ⟨{ h.synced with }, { h.timers with }⟩) fun _ => .refl s

variable {s}

/-- The head settles or fails while the queue is not HELD. -/
theorem State.acts_settleHead (hh : s.update.held = false) (r : Result) (v : Half) : s.Acts (s.settleHead r v) := by
  cases hq : s.update.outbound with
  | nil => rw [State.settleHead_nil hq]; exact .refl s
  | cons e rest =>
    rw [State.settleHead_cons hq]
    refine .within rfl rfl rfl fun h => ⟨{ h.synced with entries := fun _ => ?_, held := fun hn => ?_ }, { h.timers with }⟩
    · exact h.synced.entries (by simp [hq])
    · exact absurd hn (by simp [hh])

theorem State.acts_failHead (hh : s.update.held = false) : s.Acts s.failHead := by
  cases hq : s.update.outbound with
  | nil => rw [State.failHead_nil hq]; exact .refl s
  | cons e rest =>
    have synced (h : s.HoldsOk) : s.sync.state = .synced := h.synced.entries (by simp [hq])
    by_cases hn : e.attempts + 1 < s.port.inEffect.retryLimit
    · rw [State.failHead_below hq hn]
      exact .within rfl rfl rfl fun h => ⟨{ h.synced with entries := fun _ => synced h, held := nofun }, { h.timers with }⟩
    cases hp : s.port.inEffect.failPolicy with
    | drop =>
      rw [State.failHead_drop hq hn hp]
      exact .within rfl rfl rfl fun h =>
        ⟨{ h.synced with entries := fun _ => synced h, held := fun hn => absurd hn (by simp [hh]) }, { h.timers with }⟩
    | hold =>
      rw [State.failHead_hold hq hn hp]
      exact .within rfl rfl rfl fun h => ⟨{ h.synced with entries := fun _ => synced h, held := nofun }, { h.timers with }⟩

/-- A peer entry may be rewritten where an EVICT that pends for it pends for an ABSENT peer of a SYNCED station (R132). -/
theorem State.acts_setPeer {x : Station} {p : Peer}
    (hp : s.HoldsOk → p.evictPending = true → s.sync.state = .synced ∧ p.state = .absent) : s.Acts (s.setPeer x p) := by
  refine .within rfl rfl rfl fun h => ⟨{ h.synced with evict := fun y hy => ?_ }, { h.timers with }⟩
  obtain rfl | hne := eq_or_ne y x
  · rw [State.setPeer, Fin.getElem_fin, put_getElem_same] at hy ⊢
    exact hp h hy
  · rw [State.setPeer, Fin.getElem_fin, put_getElem_other _ _ _ _ hne] at hy ⊢
    exact h.synced.evict y hy

/-- No peer entry changes its state or has an EVICT newly pending. -/
theorem State.acts_mapPeers {f : Peer → Peer}
    (hf : ∀ p : Peer, (f p).evictPending = true → p.evictPending = true ∧ (f p).state = p.state) : s.Acts (s.mapPeers f) := by
  refine .within rfl rfl rfl fun h => ⟨{ h.synced with evict := fun y hy => ?_ }, { h.timers with }⟩
  simp only [State.mapPeers, Fin.getElem_fin, tab_getElem] at hy ⊢
  obtain ⟨he, hst⟩ := hf _ hy
  exact ⟨(h.synced.evict y he).1, hst.trans (h.synced.evict y he).2⟩

/-! #### The station state changes -/

/-- A station that neither leaves IDLE nor receives begins a request (R79). -/
theorem State.acts_beginRequest (hi : s.sync.state ≠ .idle) (hr : s.sync.state.receives = false) (he : s.HoldsOk → s.EmptyHanded) :
    s.Acts s.beginRequest := by
  refine .entering rfl rfl hi nofun fun h => ⟨State.EmptyHanded.syncedOk { he h with }, ?_⟩
  exact
    { request     := fun _ => rfl
      listenTimer := rfl
      offerTimer  := fun _ => rfl
      segment     := h.timers.segment.trans hr
      presence    := h.timers.presence.trans (decide_eq_true hi)
      pending     := nofun }

theorem State.receives_of_synced (hs : s.sync.state = .synced) : s.sync.state.receives = false := by rw [hs]; rfl

theorem StationState.ne_idle_of_listens {st : StationState} (h : st.listens = true) : st ≠ .idle := by
  rintro rfl; cases h

theorem StationState.ne_synced_of_listens {st : StationState} (h : st.listens = true) : st ≠ .synced := by
  rintro rfl; cases h

/-- Leaving SYNCED: everything it held is let go before the request begins (R88). -/
theorem State.acts_leaveSynced (hs : s.sync.state = .synced) (cause : Cause) : s.Acts (s.leaveSynced cause) := by
  rw [State.leaveSynced_eq, State.outOfSynced, State.postAll_eq]
  refine .entering rfl rfl (by simp [hs]) nofun fun h => ⟨State.EmptyHanded.syncedOk ?_, ?_⟩
  · exact ⟨rfl, rfl, rfl, rfl, rfl, fun x => by simp⟩
  · exact
      { request     := fun _ => rfl
        listenTimer := rfl
        offerTimer  := fun _ => rfl
        segment     := h.timers.segment.trans (State.receives_of_synced hs)
        presence    := h.timers.presence.trans (by rw [hs]; rfl)
        pending     := nofun }

section
variable {sub : SubState} {next : Segment} {attempts : Nat}

/-- A joiner gives up (R82). -/
theorem State.acts_strand (hs : s.sync.state = .syncing sub next attempts) : s.Acts s.strand := by
  have hi : s.sync.state ≠ .idle := by simp [hs]
  refine .entering rfl rfl hi nofun fun h => ⟨State.EmptyHanded.syncedOk { h.synced.emptyHanded (by simp [hs]) with }, ?_⟩
  exact
    { request     := nofun
      listenTimer := rfl
      offerTimer  := nofun
      segment     := rfl
      presence    := h.timers.presence.trans (decide_eq_true hi)
      pending     := nofun }

/-- A joiner's failed attempt (R116). -/
theorem State.acts_retry (hs : s.sync.state = .syncing sub next attempts) (next' : Segment) (attempts' : Nat) :
    s.Acts (s.retry next' attempts') := by
  refine .ite (fun _ => ⟨rfl, .inl rfl, rfl, by simp [hs], fun h => ?_⟩) fun _ => State.acts_strand hs
  refine ⟨State.EmptyHanded.syncedOk { h.synced.emptyHanded (by simp [hs]) with }, ?_⟩
  exact
    { request     := fun _ => rfl
      listenTimer := h.timers.listenTimer.trans (by rw [hs]; rfl)
      offerTimer  := nofun
      segment     := rfl
      presence    := h.timers.presence.trans (by rw [hs]; rfl)
      pending     := nofun }

/-- A joiner takes an OFFER or its next segment: it receives from there on, and asks for nothing (R101, R111). -/
theorem State.acts_receiving (hs : s.sync.state = .syncing sub next attempts) (d : Station) (next' : Segment) (n : Nat)
    {request : Bool} {timer : Timer} (hr : s.HoldsOk → request = false ∧ timer = none) :
    s.Acts
      { s with
        sync :=
          { s.sync with
            state := .syncing (.receiving d) next' attempts, syncRequest := request, offerTimer := timer,
            segmentTimer := some n } } := by
  refine ⟨rfl, .inl rfl, rfl, by simp [hs], fun h => ?_⟩
  obtain ⟨rfl, rfl⟩ := hr h
  refine ⟨State.EmptyHanded.syncedOk { h.synced.emptyHanded (by simp [hs]) with }, ?_⟩
  exact
    { request     := nofun
      listenTimer := h.timers.listenTimer.trans (by rw [hs]; rfl)
      offerTimer  := nofun
      segment     := rfl
      presence    := h.timers.presence.trans (by rw [hs]; rfl)
      pending     := nofun }

end

/-- A station that is not SYNCED becomes so (R78, R81, R90). -/
theorem State.acts_becomeSynced (hi : s.sync.state ≠ .idle) (hs : s.sync.state ≠ .synced) : s.Acts s.becomeSynced := by
  refine .entering rfl rfl hi nofun fun h => ⟨State.EmptyHanded.syncedOk { h.synced.emptyHanded hs with }, ?_⟩
  exact
    { request     := nofun
      listenTimer := rfl
      offerTimer  := nofun
      segment     := rfl
      presence    := h.timers.presence.trans (decide_eq_true hi)
      pending     := nofun }

/-- The position and the replica are no roles. -/
theorem State.acts_mirror (records : Vector Rec 256) (covered : Vector Bool 16) (position : Position) :
    s.Acts { s with
      table := { s.table with records := records, covered := covered }, sync := { s.sync with position := position } } :=
  .within rfl rfl rfl fun h => ⟨{ h.synced with }, { h.timers with }⟩

theorem State.acts_found (hl : s.sync.state.listens = true) : s.Acts s.found :=
  (State.acts_becomeSynced (StationState.ne_idle_of_listens hl) (StationState.ne_synced_of_listens hl)).trans
    ((State.acts_mirror (s := s.becomeSynced) (tab fun _ => Rec.zero) (tab fun _ => true) ⟨0, some s.number, 0, 0⟩).trans
      (State.acts_post _ _))

/-- The transfers with `x` end (R107, R114). -/
theorem State.acts_loseTransfers (x : Station) : s.Acts (s.loseTransfers x) := by
  have joiner (t : State) : t.Acts
      (match t.sync.state with
       | .syncing (.receiving d) next attempts =>
         if d = x then (t.post (.transferRestart .donorLost)).retry next attempts else t
       | _ => t) := by
    split
    · next hs => exact .ite (fun _ => (t.acts_post _).trans (State.acts_retry (s := t.post _) hs _ _)) fun _ => .refl t
    · exact .refl t
  refine State.Acts.trans ?_ (joiner _)
  split
  · exact .ite (fun _ => s.acts_endServing _) fun _ => .refl s
  · exact .refl s

/-! #### UPDATE and EVICT -/

theorem State.acts_noteChange (i : Index) (x : Station) : s.Acts (s.noteChange i x) := by
  obtain h | ⟨_, _, _, h⟩ | ⟨_, _, _, h⟩ := s.noteChange_cases i x <;> rw [h]
  · exact .refl s
  · exact .within rfl rfl rfl fun h => ⟨{ h.synced with }, { h.timers with }⟩
  · exact .within rfl rfl rfl fun h => ⟨{ h.synced with }, { h.timers with }⟩

theorem State.acts_applyEvaluation (cl : Closing) (i : Index) (out : Option (Result × Rec)) :
    s.Acts (s.applyEvaluation cl i out) := by
  unfold State.applyEvaluation
  split
  · exact .refl s
  · next r record =>
    have written := State.acts_mirror (s := s) (put s.table.records i record) s.table.covered s.sync.position
    exact .ite (fun _ => written.trans (State.acts_noteChange _ _)) fun _ => written

theorem State.acts_countFrame (bytes : List Byte) : s.Acts (s.countFrame bytes) := by
  have counted := State.acts_mirror (s := s) s.table.records s.table.covered (s.sync.position.advance bytes)
  unfold State.countFrame
  split
  · exact .ite (fun _ => counted) fun _ => .refl s
  · exact .ite (fun _ => counted) fun _ => .refl s
  · exact .refl s

theorem State.acts_settleEvaluation {cl : Closing} (hh : cl.own = true → s.update.held = false)
    (out : Option (Result × Rec)) : s.Acts (s.settleEvaluation cl out) := by
  unfold State.settleEvaluation
  split
  · exact .refl s
  · exact .ite (fun ho => State.acts_settleHead (hh ho) _ _) fun _ => .refl s

@[simp] theorem State.noteChange_update (s : State) (i : Index) (x : Station) : (s.noteChange i x).update = s.update := by
  obtain h | ⟨_, _, _, h⟩ | ⟨_, _, _, h⟩ := s.noteChange_cases i x <;> rw [h]

@[simp] theorem State.applyEvaluation_update (s : State) (cl : Closing) (i : Index) (out : Option (Result × Rec)) :
    (s.applyEvaluation cl i out).update = s.update := by
  unfold State.applyEvaluation
  split <;> [rfl; (dsimp only; split <;> [exact State.noteChange_update _ _ _; rfl])]

@[simp] theorem State.hearEvidence_update (s : State) : s.hearEvidence.update = s.update := by
  rw [State.hearEvidence_eq]; split <;> rfl

@[simp] theorem State.countFrame_update (s : State) (bytes : List Byte) : (s.countFrame bytes).update = s.update := by
  unfold State.countFrame; split <;> [split; split; skip] <;> rfl

/-- At the close of an UPDATE an own head settles while the queue is not HELD. -/
theorem acts_actUpdate {cl : Closing} (hh : cl.own = true → cl.frame.kind = .update → s.update.held = false) :
    s.Acts (actUpdate cl s) := by
  unfold actUpdate
  split
  · next hf =>
    refine ((s.acts_hearEvidence.trans (State.acts_applyEvaluation ..)).trans (State.acts_countFrame _)).trans
      (State.acts_settleEvaluation (fun ho => ?_) _)
    simpa using hh ho (by rw [hf]; rfl)
  · exact .refl s

theorem State.acts_evictPeer (z x : Station) : s.Acts (s.evictPeer z x) := by
  have gone : s.Acts (s.setPeer z { s.peers.entries[z].gone with evictPending := false }) :=
    State.acts_setPeer fun _ he => nomatch he
  exact .ite (fun _ => s.acts_post _) fun _ => (gone.trans (State.acts_post _ _)).trans (State.acts_loseTransfers z)

theorem acts_actEvict (cl : Closing) : s.Acts (actEvict cl s) := by
  unfold actEvict
  split
  · next z _ =>
    refine ((s.acts_hearEvidence.trans ?_).trans (State.acts_countFrame _)).trans (State.acts_evictPeer _ _)
    exact State.acts_mirror _ s.hearEvidence.table.covered s.hearEvidence.sync.position
  · exact .refl s

/-! #### WIPE -/

/-- The new lineage on a zeroed replica, a pending WIPE withdrawn (R17, R89). -/
theorem State.acts_takeWipe (x : Station) (g : Half) : s.Acts (s.takeWipe x g) :=
  .within rfl rfl rfl fun h => ⟨{ h.synced with wipe := nofun }, { h.timers with }⟩

theorem acts_actWipe (cl : Closing) : s.Acts (actWipe cl s) := by
  unfold actWipe
  split
  · next g _ =>
    have cancelled := s.acts_cancel .cancelledWipe
    dsimp only
    split
    · exact ((cancelled.trans (State.acts_takeWipe _ _)).trans (State.acts_endServing _ _)).trans (State.acts_post _ _)
    · next hs =>
      have synced := State.acts_becomeSynced (s := (s.cancel .cancelledWipe).takeWipe cl.sender g)
        (fun h => by cases hs.symm.trans h) fun h => by cases hs.symm.trans h
      exact (((cancelled.trans (State.acts_takeWipe _ _)).trans synced).trans (State.acts_post _ _)).trans (State.acts_post _ _)
    · exact cancelled.trans (State.acts_hearEvidence _)
  · exact .refl s

/-! #### PRESENCE -/

@[simp] theorem Peer.arrive_evictPending (p : Peer) (lockN : Nat) : (p.arrive lockN).1.evictPending = p.evictPending := by
  unfold Peer.arrive
  split <;> [split; split; skip; skip] <;> rfl

theorem State.acts_hearPeer (x : Station) (state interval : Byte) (c : Carried) : s.Acts (s.hearPeer x state interval c) := by
  refine .ite (fun _ => .refl s) fun _ => ?_
  have rewritten := State.acts_setPeer (s := s) (x := x)
    (p := ((s.peers.entries[x].heard state interval c).arrive s.port.inEffect.lockN).1) fun _ he => by
      rw [Peer.arrive_evictPending] at he; cases he
  exact .ite (fun _ => rewritten.trans (State.acts_post _ _)) fun _ => rewritten

theorem State.acts_setRelation (x : Station) (r : Relation) : s.Acts (s.setRelation x r) :=
  .ite (fun _ => .refl s) fun _ => State.acts_setPeer fun h => h.synced.evict x

theorem State.acts_hearLower (x : Station) (r : Option Reported) : s.Acts (s.hearLower x r) :=
  .ite (fun _ => .within rfl rfl rfl fun h => ⟨{ h.synced with }, { h.timers with }⟩) fun _ => .refl s

@[simp] theorem State.setRelation_sync (s : State) (x : Station) (r : Relation) : (s.setRelation x r).sync = s.sync := by
  unfold State.setRelation; split <;> rfl

theorem State.acts_weighPresence (x : Station) (r : Option Reported) (c : Carried) : s.Acts (s.weighPresence x r c) := by
  unfold State.weighPresence
  split
  · next hs =>
    refine .ite (fun _ => ?_) fun _ => State.acts_setRelation _ _
    unfold State.compareWith
    split
    · exact State.acts_leaveSynced hs _
    · exact State.acts_setRelation _ _
    · exact State.acts_setRelation _ _
  · exact (State.acts_setRelation x .unknown).trans
      (.ite (fun _ => State.acts_hearEvidence _) fun _ => State.acts_hearLower _ _)
  · next hs =>
    refine (State.acts_setRelation x .unknown).trans (.ite (fun _ => ?_) fun _ => State.acts_hearLower _ _)
    exact (State.acts_beginRequest (by simp [hs]) (by simp [hs, StationState.receives]) fun h =>
      h.synced.emptyHanded (by simp [hs])).trans (State.acts_post _ _)
  · exact State.acts_setRelation _ _

/-- A station out of IDLE sends its PRESENCE and has it pending no more (R123). -/
theorem acts_actPresence (cl : Closing) : s.Acts (actPresence cl s) := by
  unfold actPresence
  split
  · exact .ite (fun _ => .within rfl rfl rfl fun h => ⟨{ h.synced with }, { h.timers with pending := nofun }⟩) fun _ =>
      (State.acts_hearPeer ..).trans (State.acts_weighPresence ..)
  · exact .refl s

/-! #### SYNC_REQUEST and OFFER -/

theorem State.acts_requestSent : s.Acts s.requestSent := by
  unfold State.requestSent
  split
  · next hs =>
    have hr : s.sync.state.requests = true := by rw [hs]; rfl
    exact .ite (fun _ => .within rfl rfl rfl fun h =>
      ⟨{ h.synced with }, { h.timers with request := nofun, offerTimer := fun _ => hr }⟩) fun _ => .refl s
  · exact .refl s

@[simp] theorem State.endServing_state (s : State) (why : EndReason) : (s.endServing why).sync.state = s.sync.state :=
  congrArg Mirror.state (s.endServing_mirror why)

/-- A SYNCED station sets the offer slot. -/
theorem State.acts_setOffer (hs : s.sync.state = .synced) (o : Option OfferSlot) :
    s.Acts { s with sync := { s.sync with offer := o } } :=
  .within rfl rfl rfl fun h => ⟨{ h.synced with offer := fun _ => hs }, { h.timers with }⟩

theorem State.acts_answerRequest (j : Station) (k : Segment) : s.Acts (s.answerRequest j k) := by
  have offered (t : State) (ht : s.Acts t) (hs : t.sync.state = .synced) :
      s.Acts
        (if t.port.inEffect.donorEnable ∧ t.sync.donor = none ∧ j ≠ t.number then
          { t with sync := { t.sync with offer := some (offerFor t.sync.offer j k) } }
        else t) :=
    .ite (fun _ => ht.trans (State.acts_setOffer hs _)) fun _ => ht
  refine .ite (fun hs => ?_) fun _ => .refl s
  dsimp only
  split
  · next d _ =>
    by_cases hd : d.joiner = j
    · rw [if_pos hd]
      exact offered _ (s.acts_endServing _) (by rw [State.endServing_state, hs])
    · rw [if_neg hd]
      exact offered _ (.refl s) hs
  · exact offered _ (.refl s) hs

theorem acts_actSyncRequest (cl : Closing) : s.Acts (actSyncRequest cl s) := by
  unfold actSyncRequest
  split
  · exact .ite (fun _ => State.acts_requestSent) fun _ => State.acts_answerRequest _ _
  · exact .refl s

theorem State.acts_beginServing (j : Station) (k : Segment) : s.Acts (s.beginServing j k) :=
  .ite
    (fun hs => .within rfl rfl rfl fun h => ⟨{ h.synced with donor := fun _ => hs, offer := nofun }, { h.timers with }⟩)
    fun _ => .refl s

theorem State.acts_withdrawOffer (j : Station) : s.Acts (s.withdrawOffer j) := by
  unfold State.withdrawOffer
  split
  · exact .ite (fun _ => .within rfl rfl rfl fun h => ⟨{ h.synced with offer := nofun }, { h.timers with }⟩) fun _ => .refl s
  · exact .refl s

theorem State.acts_takeOffer (x j : Station) (k : Segment) : s.Acts (s.takeOffer x j k) := by
  unfold State.takeOffer
  split
  · next hs => exact .ite (fun _ => State.acts_receiving hs x _ _ fun _ => ⟨rfl, rfl⟩) fun _ => .refl s
  · exact .refl s

theorem acts_actOffer (cl : Closing) : s.Acts (actOffer cl s) := by
  unfold actOffer
  split
  · exact .ite (fun _ => s.acts_hearEvidence.trans (State.acts_beginServing _ _)) fun _ =>
      (s.acts_hearEvidence.trans (State.acts_withdrawOffer _)).trans (State.acts_takeOffer _ _ _)
  · exact .refl s

/-! #### SNAPSHOT -/

/-- A serving station goes on serving, or serves no more. -/
theorem State.acts_serving {d : DonorRecord} (hd : s.sync.donor = some d) (d' : DonorRecord) :
    s.Acts { s with sync := { s.sync with donor := some d' } } :=
  .within rfl rfl rfl fun h => ⟨{ h.synced with donor := fun _ => h.synced.donor (by rw [hd]; rfl) }, { h.timers with }⟩

theorem State.acts_settleSegment : s.Acts s.settleSegment := by
  unfold State.settleSegment
  split
  · exact .refl s
  · next hd =>
    split
    · exact State.acts_serving hd _
    · exact s.acts_endServing _

theorem State.acts_failSegment : s.Acts s.failSegment := by
  unfold State.failSegment
  split
  · exact .refl s
  · next hd => exact .ite (fun _ => State.acts_serving hd _) fun _ => s.acts_endServing _

section
variable {d : Station} {next : Segment} {attempts : Nat}

/-- While it receives, a joiner asks for nothing. -/
theorem State.HoldsOk.receiving (h : s.HoldsOk) (hs : s.sync.state = .syncing (.receiving d) next attempts) :
    s.sync.syncRequest = false ∧ s.sync.offerTimer = none := by
  have hr : s.sync.state.requests = false := by rw [hs]; rfl
  exact ⟨Bool.eq_false_iff.mpr fun hn => by simpa [hr] using h.timers.request hn,
    Option.not_isSome_iff_eq_none.mp fun hn => by simpa [hr] using h.timers.offerTimer hn⟩

theorem State.acts_acceptSegment (hs : s.sync.state = .syncing (.receiving d) next attempts) (k : Segment) (rs : Vector Rec 16) :
    s.Acts (s.acceptSegment d k rs attempts) := by
  have written : s.Acts (s.overwriteSegment k rs) := State.acts_mirror _ _ s.sync.position
  have hs' : (s.overwriteSegment k rs).sync.state = .syncing (.receiving d) next attempts := hs
  unfold State.acceptSegment
  dsimp only
  split
  · exact written.trans (State.acts_receiving hs' d _ _ fun h => h.receiving hs')
  · refine .ite (fun _ => ?_) fun _ => ?_
    · have synced := State.acts_becomeSynced (s := s.overwriteSegment k rs) (by rw [hs']; nofun) (by rw [hs']; nofun)
      exact (written.trans synced).trans (State.acts_post _ _)
    · refine written.trans (.within rfl rfl rfl fun h => ⟨{ h.synced with }, { h.timers with segment := ?_ }⟩)
      rw [hs']; rfl

theorem State.acts_restartTransfer (hs : s.sync.state = .syncing (.receiving d) next attempts) :
    s.Acts (s.restartTransfer attempts) := by
  have dropped : s.Acts ((s.coverAll false).dropPosition) := State.acts_mirror s.table.records _ Position.none
  have told := dropped.trans (State.acts_post _ (.transferRestart .countMismatch))
  exact told.trans (State.acts_retry (s := ((s.coverAll false).dropPosition).post _) hs 0 attempts)

end

theorem State.acts_receiveSegment (x j : Station) (k : Segment) (c : Carried) (rs : Vector Rec 16) :
    s.Acts (s.receiveSegment x j k c rs) := by
  unfold State.receiveSegment
  split
  · next hs =>
    refine .ite (fun _ => .ite (fun _ => ?_) fun _ => ?_) fun _ => .refl s
    · exact (State.acts_mirror s.table.records s.table.covered (positionOf c)).trans
        (State.acts_acceptSegment (s := { s with sync := { s.sync with position := positionOf c } }) hs k rs)
    · exact .ite (fun _ => State.acts_acceptSegment hs k rs) fun _ => State.acts_restartTransfer hs
  · exact .refl s

theorem acts_actSnapshot (cl : Closing) : s.Acts (actSnapshot cl s) := by
  unfold actSnapshot
  split
  · exact .ite (fun _ => s.acts_hearEvidence.trans State.acts_settleSegment) fun _ =>
      s.acts_hearEvidence.trans (State.acts_receiveSegment _ _ _ _ _)
  · exact .refl s


end

/-! ### The roles on the line

What the station follows is nothing, a frame of another station or its own frame; each of the three has its own conditions. -/

section
variable {s t : State}

theorem State.HoldsOk.congr (h : s.HoldsOk) (hu : t.update = s.update) (hs : t.sync = s.sync) (hp : t.peers = s.peers) :
    t.HoldsOk := by
  obtain ⟨⟩ := s; obtain ⟨⟩ := t
  cases hu; cases hs; cases hp
  exact ⟨{ h.synced with }, { h.timers with }⟩

theorem State.LineOk.congr (h : s.LineOk) (hb : t.bus = s.bus) (hs : t.sync = s.sync) (hu : t.update = s.update) : t.LineOk := by
  obtain ⟨⟩ := s; obtain ⟨⟩ := t
  cases hb; cases hs; cases hu
  exact { h with }

theorem State.LineOk.leave_free (h : s.LineOk) (hc : ∀ o, s.bus.current ≠ .own o) : s.sync.leavePending = false := by
  refine Bool.eq_false_iff.mpr fun hl => ?_
  have ho := h.leave hl
  unfold State.ownInFlight at ho
  split at ho
  · next hc' => exact hc _ hc'
  · cases ho

theorem State.ownInFlight_of_own {o : OwnFrame} (hc : s.bus.current = .own o) : s.ownInFlight = true := by
  simp only [State.ownInFlight, hc]

theorem State.ownInFlight_iff : s.ownInFlight = true ↔ ∃ o, s.bus.current = .own o := by
  unfold State.ownInFlight
  split
  · next o hc => exact ⟨fun _ => ⟨o, hc⟩, fun _ => rfl⟩
  · next hc => exact ⟨nofun, fun ⟨o, ho⟩ => absurd ho (hc o)⟩

/-- No frame on the line: no leave waits for the close of one. -/
theorem State.LineOk.of_idle (leave : s.sync.leavePending = false) (hc : s.bus.current = .idle) (due : s.dueOk) : s.LineOk where
  leave h := by simp [leave] at h
  flight h := by simp [State.ownInFlight, hc] at h
  step h := absurd hc h
  closes r rejecting h := by simp [hc] at h
  rejects r closes h := by simp [hc] at h
  due := due
  head o ticket op index h := by simp [hc] at h

theorem State.LineOk.of_receiving {r : Reader} {closes rejecting : Bool} (leave : s.sync.leavePending = false)
    (hc : s.bus.current = .receiving r closes rejecting) (step : s.bus.inStep = true)
    (takesPart : closes = true → s.sync.state ≠ .idle)
    (rejects : rejecting = true → closes = true ∧ s.sync.state = .synced) (due : s.dueOk) : s.LineOk where
  leave h := by simp [leave] at h
  flight h := by simp [State.ownInFlight, hc] at h
  step _ := step
  closes r rejecting h := takesPart (by simp [hc] at h; exact h.2.1)
  rejects r closes h := by
    simp only [hc, Current.receiving.injEq] at h
    obtain ⟨_, rfl, hr⟩ := h
    exact rejects hr
  due := due
  head o ticket op index h := by simp [hc] at h

theorem State.LineOk.of_own {o : OwnFrame} (hc : s.bus.current = .own o) (flight : s.sync.state ≠ .idle)
    (step : s.bus.inStep = true) (due : s.dueOk)
    (head : ∀ ticket op index, o.frame = .update ticket op index → s.sync.state = .synced ∧ s.update.held = false ∧
      ∃ e rest, s.update.outbound = e :: rest ∧ e.ticket = ticket ∧ e.op = op ∧ e.index = index) : s.LineOk where
  leave _ := State.ownInFlight_of_own hc
  flight _ := flight
  step _ := step
  closes r rejecting h := by simp [hc] at h
  rejects r closes h := by simp [hc] at h
  due := due
  head o' ticket op index h := by
    obtain rfl : o = o' := by simpa [hc] using h
    exact head ticket op index

end

/-! #### Each level -/

section
variable {s : State} {bus : BusInterface} {b : Bool}

/-- No event is due. -/
theorem State.dueOk_none (h : s.bus.due = none) : s.dueOk := by
  unfold State.dueOk; rw [h]; trivial

theorem State.LineOk.hearIdle (h : State.LineOk { s with bus := bus }) (hc : bus.current = .idle) (hs : bus.inStep = true)
    (hd : bus.due = none) : State.LineOk { s with bus := bus.hearIdle s.ear b } := by
  have leave := h.leave_free (by simp [hc])
  unfold BusInterface.hearIdle
  split <;> [skip; (split <;> [skip; split])]
  · refine .of_idle leave hc ?_
    unfold State.dueOk
    dsimp only
    split_ifs <;> [exact ⟨hc, hs⟩; trivial]
  · exact .of_receiving leave rfl hs (by simp [State.ear]) nofun (State.dueOk_none hd)
  · exact .of_idle leave hc ⟨hc, hs⟩
  · exact .of_idle leave hc (State.dueOk_none hd)

theorem State.LineOk.hearOutOfStep (h : State.LineOk { s with bus := bus }) (hc : bus.current = .idle)
    (hs : bus.inStep = false) (hd : bus.due = none) : State.LineOk { s with bus := bus.hearOutOfStep b } := by
  have leave := h.leave_free (by simp [hc])
  unfold BusInterface.hearOutOfStep
  split <;> [skip; split]
  · refine .of_idle leave hc ?_
    unfold State.dueOk
    dsimp only
    split_ifs <;> [exact ⟨hc, hs⟩; trivial]
  · exact .of_idle leave hc ⟨hc, hs⟩
  · exact .of_idle leave hc (State.dueOk_none hd)

theorem State.LineOk.hearFrame {r : Reader} {closes rejecting : Bool} (h : State.LineOk { s with bus := bus })
    (hc : bus.current = .receiving r closes rejecting) (hd : bus.due = none) :
    State.LineOk { s with bus := bus.hearFrame s.ear r closes rejecting b } := by
  have leave := h.leave_free (by simp [hc])
  have step : bus.inStep = true := h.step (by simp [hc])
  have takesPart : closes = true → s.sync.state ≠ .idle := by
    rintro rfl; exact h.closes r rejecting hc
  have rejects : rejecting = true → closes = true ∧ s.sync.state = .synced := by
    rintro rfl; exact h.rejects r closes hc
  rw [BusInterface.hearFrame_eq]
  split_ifs
  · exact .of_receiving leave rfl step takesPart rejects ⟨_, _, _, rfl⟩
  · exact .of_receiving leave rfl step takesPart rejects trivial
  · refine .of_receiving leave rfl step takesPart (fun hr => ?_) (State.dueOk_none hd)
    obtain ⟨hcl, hsy, _⟩ := BusInterface.rejects_iff.mp hr
    exact ⟨hcl, of_decide_eq_true hsy⟩
  · exact .of_receiving leave rfl step takesPart rejects (by simp [State.dueOk])
  · exact .of_receiving leave rfl step takesPart rejects (State.dueOk_none hd)

theorem State.LineOk.hearOwn {o : OwnFrame} (h : State.LineOk { s with bus := bus }) (hc : bus.current = .own o)
    (hd : bus.due = none) : State.LineOk { s with bus := bus.hearOwn s.ear o b } := by
  have flight : s.sync.state ≠ .idle := h.flight (State.ownInFlight_of_own hc)
  have step : bus.inStep = true := h.step (by simp [hc])
  have head := fun ticket op index => h.head o ticket op index hc
  unfold BusInterface.hearOwn BusInterface.hearOwnSlot
  split
  · refine .of_own rfl flight step ?_ head
    unfold State.dueOk
    dsimp only
    split_ifs <;> simp
  · split
    · exact .of_own rfl flight step (State.dueOk_none hd) head
    · next hsp =>
      split_ifs
      · exact .of_own rfl flight step (State.dueOk_none hd) head
      · exact .of_own hc flight step ⟨o, hc, hsp⟩ head
      · exact .of_own hc flight step ⟨o, hc, hsp⟩ head

/-- Each level read keeps the roles on the line. -/
theorem State.LineOk.hear (h : State.LineOk { s with bus := bus }) (hd : bus.due = none) :
    State.LineOk { s with bus := bus.hear s.ear b } := by
  unfold BusInterface.hear
  split
  · next hc =>
    split
    · next hs => exact h.hearIdle hc hs hd
    · next hs => exact h.hearOutOfStep hc (by simpa using hs) hd
  · next hc => exact h.hearFrame hc hd
  · next hc => exact h.hearOwn hc hd

theorem State.LineOk.follow {line : Levels} (h : s.LineOk) (hf : s.bus.follow s.ear line = some bus) :
    State.LineOk { s with bus := bus } :=
  BusInterface.follow_induction (P := fun bus => State.LineOk { s with bus := bus }) (fun _ _ hd h => h.hear hd) h hf

/-- The roles after the levels, and what the event they bring about says of the line. -/
theorem State.LineOk.heard {u : State} {line : Levels} {event : LineEvent} (h : s.LineOk) (hu : s.heard line = some (event, u)) :
    u.LineOk ∧ u.bus.due = none ∧ State.dueOk { u with bus := { u.bus with due := some event } } := by
  obtain ⟨bus, hf, hd, rfl⟩ := State.heard_iff.mp hu
  have hb := h.follow hf
  refine ⟨{ hb with due := trivial }, rfl, ?_⟩
  rw [← hd]
  exact hb.due

end

/-! ### What a command can do

Every command is one of few moves: an act aside from the line, a reset, a JOIN or a LEAVE, the levels of the line with the event
that they bring about, or the end of a frame, with or without a close. -/

/-! #### Acts aside from the line -/

/-- The reject streak is kept where the station state is, and 0 where it changes (R35). -/
def State.Turn (s t : State) : Prop :=
  t.bus.rejectStreak = s.bus.rejectStreak ∧ t.sync.state.mode = s.sync.state.mode ∨
    t.bus.rejectStreak = 0 ∧ t.sync.state.mode ≠ s.sync.state.mode

/-- An act that may fall inside a frame on the line: a SYNCED station stays SYNCED, the head of a queue that is not HELD stays the
head, and the reject streak turns with the station state. -/
structure State.Aside (s t : State) : Prop where
  acts   : s.Acts t
  synced : s.sync.state = .synced → t.sync.state = .synced
  head   : ∀ e rest, s.update.outbound = e :: rest → s.update.held = false →
             ∃ rest', t.update.outbound = e :: rest' ∧ t.update.held = false
  turn   : s.Turn t

section
variable {s t u : State}

/-- An act of the sync controller or the peer unit. -/
theorem State.Acts.aside (h : s.Acts t) (hu : t.update = s.update) (hs : s.sync.state = .synced → t.sync.state = .synced)
    (turn : s.Turn t) : s.Aside t :=
  ⟨h, hs, fun _ rest hq hh => ⟨rest, hu ▸ hq, hu ▸ hh⟩, turn⟩

/-- An act within a station state, off the line. -/
theorem State.Acts.asideWithin (h : s.Acts t) (hu : t.update = s.update) (hs : t.sync.state = s.sync.state)
    (hb : t.bus = s.bus) : s.Aside t :=
  h.aside hu (hs.trans ·) (.inl ⟨hb ▸ rfl, hs ▸ rfl⟩)

theorem State.Aside.congr (h : s.Aside t) (hb : u.bus = t.bus) (hs : u.sync = t.sync) (hu : u.update = t.update)
    (hp : u.peers = t.peers) : s.Aside u where
  acts   := h.acts.trans (.within hb (hs ▸ rfl) (hs ▸ rfl) fun ht => ht.congr hu hs hp)
  synced := fun h' => hs ▸ h.synced h'
  head   := by rw [hu]; exact h.head
  turn   := by rw [State.Turn, hb, hs]; exact h.turn

theorem State.Aside.refl (s : State) : s.Aside s := (State.Acts.refl s).asideWithin rfl rfl rfl

/-- An act of the host port or of the table unit. -/
theorem State.Aside.of_eq (hb : t.bus = s.bus) (hs : t.sync = s.sync) (hu : t.update = s.update) (hp : t.peers = s.peers) :
    s.Aside t := (State.Aside.refl s).congr hb hs hu hp

theorem State.Aside.ite {p : Prop} [Decidable p] (ht : p → s.Aside t) (hu : ¬ p → s.Aside u) : s.Aside (if p then t else u) := by
  split <;> [exact ht ‹_›; exact hu ‹_›]

/-- An act aside from the line keeps the roles on it. -/
theorem State.LineOk.aside (h : s.LineOk) (a : s.Aside t) : t.LineOk := by
  have hc : t.bus.current = s.bus.current := by rw [a.acts.line]
  have hi : t.bus.inStep = s.bus.inStep := by rw [a.acts.line]
  have hd : t.bus.due = s.bus.due := by rw [a.acts.line]
  have due : t.dueOk := by
    have := h.due
    unfold State.dueOk at this ⊢
    rwa [hc, hi, hd]
  have idle : s.sync.state ≠ .idle → t.sync.state ≠ .idle := mt a.acts.idle.mp
  cases hcs : s.bus.current with
  | idle =>
    exact .of_idle (a.acts.leave.trans (h.leave_free (by simp [hcs]))) (hc.trans hcs) due
  | receiving r closes rejecting =>
    refine .of_receiving (a.acts.leave.trans (h.leave_free (by simp [hcs]))) (hc.trans hcs) (hi.trans (h.step (by simp [hcs])))
      ?_ ?_ due
    · rintro rfl; exact idle (h.closes r rejecting hcs)
    · rintro rfl; exact (h.rejects r closes hcs).imp id a.synced
  | own o =>
    refine .of_own (hc.trans hcs) (idle (h.flight (State.ownInFlight_of_own hcs))) (hi.trans (h.step (by simp [hcs]))) due ?_
    intro ticket op index hf
    obtain ⟨hs, hh, e, rest, hq, he⟩ := h.head o ticket op index hcs hf
    obtain ⟨rest', hq', hh'⟩ := a.head e rest hq hh
    exact ⟨a.synced hs, hh', e, rest', hq', he⟩

end

/-! #### The host's commands -/

section
variable (s : State)

theorem changeReply_aside (op : Op) (i : Index) : s.Aside (changeReply op i s).state := by
  unfold changeReply
  split <;> [skip; split <;> [skip; split]]
  · exact .refl s
  · exact .refl s
  · exact .refl s
  · next hs _ _ =>
    have synced : s.sync.state = .synced := by_contra fun h => hs (.inl h)
    exact
      { acts   := .within rfl rfl rfl fun h =>
          ⟨{ h.synced with entries := fun _ => synced, held := fun _ => by simp [State.acceptChange] }, { h.timers with }⟩
        synced := id
        head   := fun e rest hq hh => ⟨rest ++ [_], congrArg (· ++ _) hq, hh⟩
        turn   := .inl ⟨rfl, rfl⟩ }

theorem wipeReply_aside : s.Aside (wipeReply s).state := by
  unfold wipeReply
  split <;> [skip; split]
  · exact .refl s
  · exact .refl s
  · next hs _ =>
    have synced : s.sync.state = .synced := by_contra fun h => hs (.inl h)
    exact State.Acts.asideWithin (.within rfl rfl rfl fun h => ⟨{ h.synced with wipe := fun _ => synced }, { h.timers with }⟩)
      rfl rfl rfl

/-- RESUME and DISCARD_HEAD act on a HELD queue, whose head is on no line. -/
theorem State.aside_held {s t : State} (hh : s.update.held = true) (ht : t = { s with update := t.update })
    (he : t.update.outbound ≠ [] → s.update.outbound ≠ []) (hn : t.update.held = false) : s.Aside t := by
  rw [ht]
  exact
    { acts   := .within rfl rfl rfl fun h =>
        ⟨{ h.synced with entries := fun hq => h.synced.entries (he hq), held := fun h' => by simp [hn] at h' },
          { h.timers with }⟩
      synced := id
      head   := fun e rest _ h' => by simp [hh] at h'
      turn   := .inl ⟨rfl, rfl⟩ }

theorem resumeReply_aside : s.Aside (resumeReply s).state := by
  unfold resumeReply
  split
  · next hh =>
    refine State.aside_held (t := s.resumeHead) hh rfl (fun hq hn => hq ?_) rfl
    simp [State.resumeHead, hn]
  · exact .refl s

theorem discardHeadReply_aside : s.Aside (discardHeadReply s).state := by
  unfold discardHeadReply
  split
  · next hh =>
    refine State.aside_held (t := s.discardHead) hh rfl (fun hq hn => hq ?_) rfl
    simp [State.discardHead, hn]
  · exact .refl s

theorem configureReply_aside (o : ConfigOperands) : s.Aside (configureReply o s).state := by
  unfold configureReply
  split <;> [skip; split] <;> exact .of_eq rfl rfl rfl rfl

theorem setInterruptsReply_aside (events completions : Byte) : s.Aside (setInterruptsReply events completions s).state := by
  unfold setInterruptsReply
  split <;> [skip; split] <;> exact .of_eq rfl rfl rfl rfl

theorem takeCompletionReply_aside : s.Aside (takeCompletionReply s).state := by
  unfold takeCompletionReply
  split
  · exact .refl s
  · exact
      { acts   := .within rfl rfl rfl fun h => ⟨{ h.synced with }, { h.timers with }⟩
        synced := id
        head   := fun e rest hq hh => ⟨rest, hq, hh⟩
        turn   := .inl ⟨rfl, rfl⟩ }

theorem takeEventReply_aside : s.Aside (takeEventReply s).state := by
  unfold takeEventReply State.dropEvent
  split <;> [skip; (dsimp only; split)] <;> exact .of_eq rfl rfl rfl rfl

theorem readPeerReply_aside (number : Byte) : s.Aside (readPeerReply number s).state := by
  unfold readPeerReply
  split <;> exact .refl s

end

/-! #### The timers -/

section
variable (s : State)

theorem State.aside_endListenWindow : s.Aside s.endListenWindow := by
  unfold State.endListenWindow
  split
  · next hs =>
    have hl : s.sync.state.listens = true := by rw [hs]; rfl
    refine .ite (fun _ => ?_) fun _ => ?_
    · refine State.Acts.aside (State.Acts.trans (State.acts_beginRequest (by simp [hs]) (by rw [hs]; rfl) fun h =>
        h.synced.emptyHanded (by simp [hs])) (State.acts_post _ _)) rfl (by simp [hs]) (.inr ⟨rfl, by rw [hs]; nofun⟩)
    · exact (State.acts_found hl).aside rfl (by simp [hs]) (.inr ⟨rfl, by rw [hs]; nofun⟩)
  · next hs =>
    have hl : s.sync.state.listens = true := by rw [hs]; rfl
    refine .ite (fun _ => ?_) fun _ => ?_
    · refine State.Acts.asideWithin (.within rfl rfl rfl fun h => ⟨{ h.synced with }, { h.timers with listenTimer := ?_ }⟩)
        rfl rfl rfl
      rw [hs]; rfl
    · exact (State.acts_found hl).aside rfl (by simp [hs]) (.inr ⟨rfl, by rw [hs]; nofun⟩)
  · exact .refl s

variable {s}

theorem State.aside_retry {sub : SubState} {next : Segment} {attempts : Nat} (hs : s.sync.state = .syncing sub next attempts) :
    s.Aside (s.retry next attempts) := by
  refine (State.acts_retry hs next attempts).aside ?_ (by simp [hs]) ?_
  · unfold State.retry; split <;> rfl
  · unfold State.retry
    split
    · exact .inl ⟨rfl, by rw [hs]; rfl⟩
    · exact .inr ⟨rfl, by rw [hs]; nofun⟩

/-- An act within a station state, then an act aside from the line. -/
theorem State.Aside.after {t u : State} (h : t.Aside u) (a : s.Acts t) (hb : t.bus = s.bus) (hs : t.sync.state = s.sync.state)
    (hu : t.update = s.update) : s.Aside u where
  acts   := a.trans h.acts
  synced := fun hs' => h.synced (hs.trans hs')
  head   := by rw [← hu]; exact h.head
  turn   := by rw [State.Turn, ← hb, ← hs]; exact h.turn

@[simp] theorem State.endServing_bus (s : State) (why : EndReason) : (s.endServing why).bus = s.bus := by
  unfold State.endServing; split <;> rfl

@[simp] theorem State.endServing_update (s : State) (why : EndReason) : (s.endServing why).update = s.update := by
  unfold State.endServing; split <;> rfl

theorem State.aside_loseTransfers (x : Station) : s.Aside (s.loseTransfers x) := by
  have joiner (t : State) : t.Aside
      (match t.sync.state with
       | .syncing (.receiving d) next attempts =>
         if d = x then (t.post (.transferRestart .donorLost)).retry next attempts else t
       | _ => t) := by
    split
    · next hs =>
      exact .ite (fun _ => (State.aside_retry (s := t.post _) hs).after (t.acts_post _) rfl rfl rfl) fun _ => .refl t
    · exact .refl t
  unfold State.loseTransfers
  cases hd : s.sync.donor with
  | none => exact joiner s
  | some d =>
    dsimp only
    by_cases hx : d.joiner = x
    · rw [if_pos hx]
      exact (joiner _).after (s.acts_endServing _) (s.endServing_bus _) (s.endServing_state _) (s.endServing_update _)
    · rw [if_neg hx]
      exact joiner s

/-- An expired watch timer of an entry with no EVICT pending for it: it fades or goes, and its transfers with it (R126 to R132). -/
theorem State.aside_expireWatch (x : Station) : s.Aside (s.expireWatch x) := by
  have quiet (h : s.HoldsOk) (hs : s.peers.entries[x].state ≠ .absent) (he : s.peers.entries[x].evictPending = true) : False :=
    hs (h.synced.evict x he).2
  have missed (misses : Nat) (hs : s.peers.entries[x].state ≠ .absent) : s.Aside (s.missPeer x misses) := by
    refine .ite (fun _ => ?_) fun _ => ?_
    · exact State.Acts.asideWithin (State.acts_setPeer fun h he => (quiet h hs he).elim) rfl rfl rfl
    · have gone : s.Acts (s.setPeer x { s.peers.entries[x].gone with
          evictPending := s.peers.entries[x].gone.evictPending || decide (s.sync.state = .synced) }) :=
        State.acts_setPeer fun h he => by
          obtain he | he := (Bool.or_eq_true _ _).mp he
          · exact (quiet h hs he).elim
          · exact ⟨of_decide_eq_true he, rfl⟩
      exact (State.aside_loseTransfers x).after (gone.trans (State.acts_post _ (.peerDown x))) rfl rfl rfl
  unfold State.expireWatch
  split
  · exact .refl s
  · next hs =>
    have gone : s.Acts (s.setPeer x s.peers.entries[x].gone) :=
      State.acts_setPeer fun h he => (quiet h (by rw [hs]; nofun) he).elim
    exact (State.aside_loseTransfers x).after gone rfl rfl rfl
  · next hs => exact missed _ (by rw [hs]; nofun)
  · next hs => exact missed _ (by rw [hs]; nofun)

theorem State.aside_presenceTimer (ht : s.peers.presenceTimer.isSome = true) (n : Nat) :
    s.Aside { s with peers := { s.peers with presencePending := true, presenceTimer := some n } } := by
  refine State.Acts.asideWithin (.within rfl rfl rfl fun h => ?_) rfl rfl rfl
  have hi : s.sync.state ≠ .idle := of_decide_eq_true (h.timers.presence ▸ ht)
  exact ⟨{ h.synced with }, { h.timers with presence := (decide_eq_true hi).symm, pending := fun _ => hi }⟩

@[simp] theorem lowerTimer_isSome (t : Timer) : (lowerTimer t).isSome = t.isSome := Option.isSome_map

/-- A millisecond stops no timer and moves nothing else. -/
theorem State.aside_tick : s.Aside s.tick := by
  have lowered : s.Acts (s.mapPeers fun p => { p with watchTimer := lowerTimer p.watchTimer }) :=
    State.acts_mapPeers fun p he => ⟨he, rfl⟩
  refine State.Acts.asideWithin (lowered.trans (.within rfl rfl rfl fun h => ⟨{ h.synced with }, ?_⟩)) rfl rfl rfl
  exact
    { h.timers with
      listenTimer := (lowerTimer_isSome _).trans h.timers.listenTimer
      offerTimer  := fun ht => h.timers.offerTimer ((lowerTimer_isSome _).symm.trans ht)
      segment     := (lowerTimer_isSome _).trans h.timers.segment
      presence    := (lowerTimer_isSome _).trans h.timers.presence }

end

/-! #### The closes -/

/-- The acts of a close of kind `k`: the head of an own UPDATE settles while the queue is not HELD, and in every state the acts keep
the reject streak or set it to 0. -/
structure CloseActs (k : Kind) (act : Closing → State → State) : Prop where
  acts   : ∀ (cl : Closing) (s : State), (cl.own = true → cl.frame.kind = .update → s.update.held = false) → s.Acts (act cl s)
  streak : ∀ (cl : Closing) (s : State), (act cl s).bus.rejectStreak = s.bus.rejectStreak ∨ (act cl s).bus.rejectStreak = 0
  exec   : ∀ (line : Levels) (s : State), exec (closeOf k line) s = .next (s.closeCommitted line k act)

@[simp] theorem State.hearEvidence_bus (s : State) : s.hearEvidence.bus = s.bus := by
  rw [State.hearEvidence_eq]; split <;> rfl

@[simp] theorem State.countFrame_bus (s : State) (bytes : List Byte) : (s.countFrame bytes).bus = s.bus := by
  unfold State.countFrame; split <;> [split; split; skip] <;> rfl

@[simp] theorem State.applyEvaluation_bus (s : State) (cl : Closing) (i : Index) (out : Option (Result × Rec)) :
    (s.applyEvaluation cl i out).bus = s.bus := by
  unfold State.applyEvaluation State.noteChange
  split <;> [rfl; (dsimp only; split <;> [(split <;> [split; skip]); skip])] <;> rfl

@[simp] theorem State.settleHead_bus (s : State) (r : Result) (v : Half) : (s.settleHead r v).bus = s.bus := by
  unfold State.settleHead; split <;> rfl

@[simp] theorem State.settleEvaluation_bus (s : State) (cl : Closing) (out : Option (Result × Rec)) :
    (s.settleEvaluation cl out).bus = s.bus := by
  unfold State.settleEvaluation
  split <;> [rfl; (split <;> [exact State.settleHead_bus _ _ _; rfl])]

/-- An UPDATE does not touch the bus interface. -/
theorem actUpdate_bus (cl : Closing) (s : State) : (actUpdate cl s).bus = s.bus := by
  unfold actUpdate; split <;> simp

theorem closeActs (k : Kind) : ∃ act, CloseActs k act := by
  have of (act : Closing → State → State) (acts : ∀ cl s, s.Acts (act cl s))
      (exec : ∀ line s, exec (closeOf k line) s = .next (s.closeCommitted line k act)) : ∃ act, CloseActs k act :=
    ⟨act, fun cl s _ => acts cl s, fun cl s => (acts cl s).streak, exec⟩
  cases k with
  | update =>
    exact ⟨actUpdate, fun _ _ h => acts_actUpdate h, fun cl s => .inl (congrArg BusInterface.rejectStreak (actUpdate_bus cl s)),
      fun _ _ => rfl⟩
  | presence => exact of actPresence (fun cl s => acts_actPresence cl) fun _ _ => rfl
  | wipe => exact of actWipe (fun cl s => acts_actWipe cl) fun _ _ => rfl
  | evict => exact of actEvict (fun cl s => acts_actEvict cl) fun _ _ => rfl
  | syncRequest => exact of actSyncRequest (fun cl s => acts_actSyncRequest cl) fun _ _ => rfl
  | offer => exact of actOffer (fun cl s => acts_actOffer cl) fun _ _ => rfl
  | snapshot => exact of actSnapshot (fun cl s => acts_actSnapshot cl) fun _ _ => rfl

section
variable {s u : State} {line : Levels}

/-- A frame that has a close here is one heard from another station or the own one. -/
theorem State.handsClose_cases (hu : s.heard line = some (.close, u)) (hc : u.bus.current ≠ .idle) (hh : u.handsClose = true) :
    (∃ r rejecting, s.hearsFrame line r rejecting u) ∨ ∃ o, s.sendsFrame line o u := by
  have hs := State.handsClose_state hh
  cases hcu : u.bus.current with
  | idle => exact absurd hcu hc
  | receiving r closes rejecting =>
    have : closes = true := by simpa [State.handsClose, hs, hcu] using hh
    exact .inl ⟨r, rejecting, hu, hs, this ▸ hcu⟩
  | own o => exact .inr ⟨o, hu, hs, hcu⟩

theorem State.closing_current {e : Ending} (hcl : s.closing line = some (e, u)) : u.bus.current ≠ .idle := by
  intro hc
  have := (State.closing_heard hcl).2
  rw [hc] at this
  cases this

/-- The received frame that closes as bad. -/
theorem State.closing_bad {rejecting : Bool} (hcl : s.closing line = some (.bad rejecting, u)) (hh : u.handsClose = true) :
    ∃ r, s.hearsFrame line r rejecting u ∧ r.bad = true := by
  obtain ⟨r, rejecting', h⟩ | ⟨o, h⟩ := State.handsClose_cases (State.closing_heard hcl).1 (State.closing_current hcl) hh
  · obtain ⟨bad, discarded, committed⟩ := State.closing_receiving h.1 h.2.2
    obtain ⟨x, f, hr⟩ | hr | hr := r.committed_or_discarded_or_bad
    · cases hcl.symm.trans (committed x f hr)
    · obtain ⟨⟨x, f⟩, hr⟩ := Option.isSome_iff_exists.mp hr
      cases hcl.symm.trans (discarded x f hr)
    · cases hcl.symm.trans (bad hr)
      exact ⟨r, h, hr⟩
  · have := hcl.symm.trans (State.closing_own h.1 h.2.2)
    split_ifs at this <;> cases this

/-- The frame that closes as discarded: a received one, or the own one, spoiled or its slot driven. -/
theorem State.closing_discarded {cl : Closing} {spoiled : Bool} (hcl : s.closing line = some (.discarded cl spoiled, u))
    (hh : u.handsClose = true) :
    (∃ r rejecting, s.hearsFrame line r rejecting u ∧ r.discarded.isSome = true) ∨
      ∃ o, s.sendsFrame line o u ∧ (o.spoil.isSome = true ∨ o.rejected = true) := by
  obtain ⟨r, rejecting, h⟩ | ⟨o, h⟩ := State.handsClose_cases (State.closing_heard hcl).1 (State.closing_current hcl) hh
  · obtain ⟨bad, discarded, committed⟩ := State.closing_receiving h.1 h.2.2
    obtain ⟨x, f, hr⟩ | hr | hr := r.committed_or_discarded_or_bad
    · cases hcl.symm.trans (committed x f hr)
    · exact .inl ⟨r, rejecting, h, hr⟩
    · cases hcl.symm.trans (bad hr)
  · have := hcl.symm.trans (State.closing_own h.1 h.2.2)
    split_ifs at this with hd <;> cases this
    exact .inr ⟨o, h, hd⟩

/-- The frame that closes as committed: a received one, or the own one, its readback matched and its slot recessive. -/
theorem State.closing_committed_cases {cl : Closing} (hcl : s.closing line = some (.committed cl, u)) (hh : u.handsClose = true) :
    (∃ x f r rejecting, cl = ⟨x, false, f⟩ ∧ s.hearsFrame line r rejecting u ∧ r.committed = some (x, f)) ∨
      ∃ o, cl = ⟨u.number, true, o.frame⟩ ∧ s.sendsFrame line o u ∧ o.spoil = none ∧ o.rejected = false := by
  obtain ⟨r, rejecting, h⟩ | ⟨o, h⟩ := State.handsClose_cases (State.closing_heard hcl).1 (State.closing_current hcl) hh
  · obtain ⟨bad, discarded, committed⟩ := State.closing_receiving h.1 h.2.2
    obtain ⟨x, f, hr⟩ | hr | hr := r.committed_or_discarded_or_bad
    · cases hcl.symm.trans (committed x f hr)
      exact .inl ⟨x, f, r, rejecting, rfl, h, hr⟩
    · obtain ⟨⟨x, f⟩, hr⟩ := Option.isSome_iff_exists.mp hr
      cases hcl.symm.trans (discarded x f hr)
    · cases hcl.symm.trans (bad hr)
  · have := hcl.symm.trans (State.closing_own h.1 h.2.2)
    split_ifs at this with hd <;> cases this
    simp only [not_or, Bool.not_eq_true, Option.isSome_eq_false_iff, Option.isNone_iff_eq_none] at hd
    exact .inr ⟨o, rfl, h, hd⟩

/-- The close of another station's committed frame runs the acts of its kind. -/
theorem exec_committedReceived {r : Reader} {rejecting : Bool} {x : Station} {f : Frame} (h : s.hearsFrame line r rejecting u)
    (hc : r.committed = some (x, f)) {act : Closing → State → State} (ha : CloseActs f.kind act) :
    exec (closeOf f.kind line) s = .next (act ⟨x, false, f⟩ u.afterReceived) := by
  rw [ha.exec, State.closeCommitted_takes (own := false) ⟨r, rejecting, h, hc⟩]
  rfl

/-- The close of the own committed frame runs the acts of its kind, and a deferred leave follows (R93). -/
theorem exec_committedOwn {o : OwnFrame} (h : s.sendsFrame line o u) (hs : o.spoil = none) (hr : o.rejected = false)
    {act : Closing → State → State} (ha : CloseActs o.frame.kind act) :
    exec (closeOf o.frame.kind line) s = .next ((act ⟨u.number, true, o.frame⟩ (u.afterSent o.frame)).afterOwnClose true) := by
  have hands : u.handsClose = true := by simp [State.handsClose, h.2.1, h.2.2]
  rw [ha.exec, State.closeCommitted, State.closing_own h.1 h.2.2]
  simp only [hs, hr, hands, Option.isSome_none, Bool.false_eq_true, or_self, if_true, if_false]
  rfl

end

/-! #### The moves -/

/-- What each command can do. -/
inductive State.ExecMove (s : State) : Instr → State → Prop
  | aside {c : Instr} {t : State} (h : s.Aside t) : s.ExecMove c t
  | reset {sn : BitVec 4} {br : BitVec 2} {low : Bool} {t : State} (h : exec (.hardReset sn br low) s = .next t) :
      s.ExecMove (.hardReset sn br low) t
  | joined (idle : s.sync.state = .idle) : s.ExecMove .join (s.joinSession.answer .ok [])
  | left (active : s.sync.state ≠ .idle) (free : s.ownInFlight = false) : s.ExecMove .leave (s.nowIdle.answer .ok [])
  | leavePends (active : s.sync.state ≠ .idle) (flight : s.ownInFlight = true) :
      s.ExecMove .leave (State.answer { s with sync := { s.sync with leavePending := true } } .ok [])
  | follows {line : Levels} {bus : BusInterface} {p : HostPort} (followed : s.bus.follow s.ear line = some bus) :
      s.ExecMove (.transactionStart line) { s with bus := bus, port := p }
  | offered {line : Levels} {u : State} (heard : s.heard line = some (.offerPoint, u)) : s.ExecMove (.offerPoint line) u.offer
  | lost {line : Levels} {u t : State} {o : OwnFrame} (heard : s.heard line = some (.lostArbitration, u))
      (own : u.bus.current = .own o) (h : exec (.lostArbitration line) s = .next t) : s.ExecMove (.lostArbitration line) t
  | spoiled {line : Levels} {u : State} {o : OwnFrame} (heard : s.heard line = some (.spoiled, u))
      (own : u.bus.current = .own o) :
      s.ExecMove (.spoiledFrame line)
        { u with bus := { u.bus with current := .own { o with position := o.position + 1, spoil := some 0 } } }
  | lostPlace {line : Levels} {u : State} {how : PlaceLoss} (heard : s.heard line = some (.lostPlace how, u)) :
      s.ExecMove (.lostPlace line) (u.losePlace how)
  | regained {line : Levels} {u : State} {how : StepGain} (heard : s.heard line = some (.regain how, u)) :
      s.ExecMove (.regainStep line) (u.regain how)
  | ended {c : Instr} {line : Levels} {u : State} {bad : Bool} (heard : s.heard line = some (.close, u))
      (noClose : u.handsClose = false) : s.ExecMove c (u.frameEnds bad)
  | badClosed {line : Levels} {r : Reader} {rejecting : Bool} {u : State} (hears : s.hearsFrame line r rejecting u)
      (bad : r.bad = true) : s.ExecMove (.badFrameClose line) (u.badClose rejecting)
  | discardedReceived {line : Levels} {r : Reader} {rejecting : Bool} {u : State} (hears : s.hearsFrame line r rejecting u)
      (discarded : r.discarded.isSome = true) : s.ExecMove (.discardedClose line) u.afterReceived
  | discardedOwn {line : Levels} {o : OwnFrame} {u : State} (sends : s.sendsFrame line o u)
      (discarded : o.spoil.isSome = true ∨ o.rejected = true) :
      s.ExecMove (.discardedClose line)
        ((((u.afterDiscarded o.frame o.spoil.isSome).settleDiscarded o.frame).spoilCounted o.spoil.isSome).afterOwnClose true)
  | committedReceived {line : Levels} {r : Reader} {rejecting : Bool} {x : Station} {f : Frame} {u : State}
      {act : Closing → State → State} (hears : s.hearsFrame line r rejecting u) (committed : r.committed = some (x, f))
      (acts : CloseActs f.kind act) : s.ExecMove (closeOf f.kind line) (act ⟨x, false, f⟩ u.afterReceived)
  | committedOwn {line : Levels} {o : OwnFrame} {u : State} {act : Closing → State → State} (sends : s.sendsFrame line o u)
      (spoil : o.spoil = none) (rejected : o.rejected = false) (acts : CloseActs o.frame.kind act) :
      s.ExecMove (closeOf o.frame.kind line) ((act ⟨u.number, true, o.frame⟩ (u.afterSent o.frame)).afterOwnClose true)

theorem State.ExecMove.kept {s : State} {c : Instr} : s.ExecMove c s := .aside (.refl s)

theorem State.ExecMove.of_eq {s t : State} {c : Instr} (hb : t.bus = s.bus) (hs : t.sync = s.sync) (hu : t.update = s.update)
    (hp : t.peers = s.peers) : s.ExecMove c t := .aside (.of_eq hb hs hu hp)

theorem State.ExecMove.ite {s a b : State} {c : Instr} {p : Prop} [Decidable p] (ha : p → s.ExecMove c a)
    (hb : ¬ p → s.ExecMove c b) : s.ExecMove c (if p then a else b) := by
  split <;> [exact ha ‹_›; exact hb ‹_›]

section
variable {s : State} {c : Instr}

/-- A host command is taken at a ready port, or it is refused or not taken. -/
theorem State.takeCommand_execMove {act : State → Reply} (n : Nat)
    (h : s.ExecMove c ((act s).state.answer (act s).status (act s).bytes)) : s.ExecMove c (s.takeCommand n act) := by
  refine .ite (fun _ => ?_) fun _ => .kept
  dsimp only
  split
  · exact .of_eq rfl rfl rfl rfl
  · exact h

/-- A host command whose action is aside from the line. -/
theorem State.takeCommand_aside {act : State → Reply} (n : Nat) (h : s.Aside (act s).state) :
    s.ExecMove c (s.takeCommand n act) :=
  State.takeCommand_execMove n (.aside (h.congr rfl rfl rfl rfl))

theorem joinReply_execMove (s : State) :
    s.ExecMove .join ((joinReply s).state.answer (joinReply s).status (joinReply s).bytes) := by
  unfold joinReply
  split
  · exact .of_eq rfl rfl rfl rfl
  · next hs => exact .joined (not_not.mp hs)

theorem leaveReply_execMove (s : State) :
    s.ExecMove .leave ((leaveReply s).state.answer (leaveReply s).status (leaveReply s).bytes) := by
  unfold leaveReply
  split <;> [skip; split <;> [skip; split]]
  · exact .of_eq rfl rfl rfl rfl
  · exact .of_eq rfl rfl rfl rfl
  · next hs _ ho => exact .leavePends hs ho
  · next hs _ ho => rw [State.goIdle_eq]; exact .left hs (by simpa using ho)

/-- The close of a committed frame of kind `k`. -/
theorem State.closeCommitted_execMove {t : State} (line : Levels) (k : Kind) (h : exec (closeOf k line) s = .next t) :
    s.ExecMove (closeOf k line) t := by
  obtain ⟨act, ha⟩ := closeActs k
  have ht : s.closeCommitted line k act = t := Host.Outcome.next.inj ((ha.exec line s).symm.trans h)
  obtain h' | ⟨cl, u, hcl, rfl, ⟨hn, h'⟩ | ⟨hh, h'⟩⟩ := s.closeCommitted_cases line k act
  · rw [← ht, h']; exact .kept
  · rw [← ht, h']; exact .ended (State.closing_heard hcl).1 hn
  · obtain ⟨x, f, r, rejecting, rfl, hears, hr⟩ | ⟨o, rfl, sends, hs, hr⟩ := State.closing_committed_cases hcl hh
    · cases h.symm.trans (exec_committedReceived hears hr ha)
      exact .committedReceived hears hr ha
    · cases h.symm.trans (exec_committedOwn sends hs hr ha)
      exact .committedOwn sends hs hr ha

/-- Every command is one of the moves. -/
theorem exec_execMove {t : State} (h : exec c s = .next t) : s.ExecMove c t := by
  cases c
  case hardReset => exact .reset h
  case lostArbitration line =>
    by_cases hl : ∃ u o, s.heard line = some (.lostArbitration, u) ∧ u.bus.current = .own o
    · obtain ⟨u, o, hu, ho⟩ := hl
      exact .lost hu ho h
    · obtain rfl := Host.Outcome.next.inj h
      split
      · next u hu =>
        split
        · next o ho => exact absurd ⟨u, o, hu, ho⟩ hl
        · exact .kept
      · exact .kept
  case updateClose line => exact State.closeCommitted_execMove line .update h
  case evictClose line => exact State.closeCommitted_execMove line .evict h
  case wipeClose line => exact State.closeCommitted_execMove line .wipe h
  case presenceClose line => exact State.closeCommitted_execMove line .presence h
  case syncRequestClose line => exact State.closeCommitted_execMove line .syncRequest h
  case offerClose line => exact State.closeCommitted_execMove line .offer h
  case snapshotClose line => exact State.closeCommitted_execMove line .snapshot h
  case badFrameClose line =>
    obtain rfl := Host.Outcome.next.inj h
    split
    · next rejecting u hcl =>
      refine .ite (fun hh => ?_) fun hh => .ended (State.closing_heard hcl).1 (by simpa using hh)
      obtain ⟨r, hears, hb⟩ := State.closing_bad hcl hh
      exact .badClosed hears hb
    · exact .kept
  case discardedClose line =>
    by_cases hcl : ∃ cl spoiled u, s.closing line = some (.discarded cl spoiled, u) ∧ u.handsClose = true
    · obtain ⟨cl, spoiled, u, hcl, hh⟩ := hcl
      obtain ⟨r, rejecting, hears, hr⟩ | ⟨o, sends, hd⟩ := State.closing_discarded hcl hh
      · cases h.symm.trans (exec_discardedReceived hears hr)
        exact .discardedReceived hears hr
      · cases h.symm.trans (exec_discardedOwn sends hd)
        exact .discardedOwn sends hd
    · obtain rfl := Host.Outcome.next.inj h
      split
      · next cl spoiled u hc =>
        have hn : u.handsClose = false := by
          by_contra hh
          exact hcl ⟨cl, spoiled, u, hc, by simpa using hh⟩
        rw [hn]
        exact .ended (State.closing_heard hc).1 hn
      · exact .kept
  all_goals obtain rfl := Host.Outcome.next.inj h
  case startUpClearComplete => exact .ite (fun _ => .of_eq rfl rfl rfl rfl) fun _ => .kept
  case transactionStart line =>
    refine .ite (fun _ => ?_) fun _ => .kept
    cases hf : s.bus.follow s.ear line with
    | none => exact .of_eq rfl rfl rfl rfl
    | some bus => exact .follows hf
  case transactionTruncated =>
    split
    · exact .ite (fun _ => .of_eq rfl rfl rfl rfl) fun _ => .kept
    · exact .of_eq rfl rfl rfl rfl
    · exact .kept
  case transactionEnd => split <;> exact .of_eq rfl rfl rfl rfl
  case status => exact .ite (fun _ => .of_eq rfl rfl rfl rfl) fun _ => .kept
  case configure => exact State.takeCommand_aside _ (configureReply_aside _ _)
  case join => exact State.takeCommand_execMove _ (joinReply_execMove s)
  case leave => exact State.takeCommand_execMove _ (leaveReply_execMove s)
  case readRecord => exact State.takeCommand_aside _ (.refl s)
  case write => exact State.takeCommand_aside _ (changeReply_aside _ _ _)
  case cswap => exact State.takeCommand_aside _ (changeReply_aside _ _ _)
  case claim => exact State.takeCommand_aside _ (changeReply_aside _ _ _)
  case release => exact State.takeCommand_aside _ (changeReply_aside _ _ _)
  case wipe => exact State.takeCommand_aside _ (wipeReply_aside s)
  case resume => exact State.takeCommand_aside _ (resumeReply_aside s)
  case discardHead => exact State.takeCommand_aside _ (discardHeadReply_aside s)
  case takeCompletion => exact State.takeCommand_aside _ (takeCompletionReply_aside s)
  case takeEvent => exact State.takeCommand_aside _ (takeEventReply_aside s)
  case readPeer => exact State.takeCommand_aside _ (readPeerReply_aside s _)
  case watch => exact State.takeCommand_aside _ (.of_eq rfl rfl rfl rfl)
  case unwatch => exact State.takeCommand_aside _ (.of_eq rfl rfl rfl rfl)
  case setInterrupts => exact State.takeCommand_aside _ (setInterruptsReply_aside s _ _)
  case badCommand => exact .ite (fun _ => .kept) fun _ => State.takeCommand_aside _ (.refl s)
  case offerPoint =>
    split
    · next u hu => exact .offered hu
    · exact .kept
  case spoiledFrame =>
    split
    · next u hu =>
      split
      · next o ho => exact .spoiled hu ho
      · exact .kept
    · exact .kept
  case lostPlace =>
    split
    · next how u hu => exact .lostPlace hu
    · exact .kept
  case regainStep =>
    split
    · next how u hu => exact .regained hu
    · exact .kept
  case listenTimerExpiry => exact .ite (fun _ => .aside s.aside_endListenWindow) fun _ => .kept
  case presenceTimer => exact .ite (fun ht => .aside (State.aside_presenceTimer ht _)) fun _ => .kept
  case offerTimerExpiry =>
    refine .ite (fun _ => ?_) fun _ => .kept
    split
    · next hs => exact .aside (State.aside_retry hs)
    · exact .kept
  case segmentTimerExpiry =>
    refine .ite (fun _ => ?_) fun _ => .kept
    split
    · next hs => exact .aside ((State.aside_retry (s := s.post _) hs).after (s.acts_post _) rfl rfl rfl)
    · exact .kept
  case watchTimerExpiry x => exact .ite (fun _ => .aside (State.aside_expireWatch x)) fun _ => .kept

end

/-! #### Every move keeps the roles -/

section
variable {s t u : State}

theorem State.heard_holdsOk {line : Levels} {event : LineEvent} (hu : s.heard line = some (event, u)) (h : s.HoldsOk) :
    u.HoldsOk := by
  rw [State.heard_keeps hu]
  exact h.congr rfl rfl rfl

theorem State.reset_holdsOk_lineOk : State.reset.HoldsOk ∧ State.reset.LineOk :=
  (State.rolesOk_iff _).mp ⟨State.reset_rolesOk, State.reset_headInFlightOk⟩

theorem State.dueOk_congr (hc : t.bus.current = s.bus.current) (hi : t.bus.inStep = s.bus.inStep) (hd : t.bus.due = s.bus.due)
    (h : s.dueOk) : t.dueOk := by
  unfold State.dueOk at h ⊢
  rwa [hc, hi, hd]

/-- What is due of a received frame does not depend on what has been read of it. -/
theorem State.dueOk_receiving {r r' : Reader} {closes rejecting closes' rejecting' : Bool}
    (hs : s.bus.current = .receiving r closes rejecting) (ht : t.bus.current = .receiving r' closes' rejecting')
    (hd : t.bus.due = s.bus.due) (h : s.dueOk) : t.dueOk := by
  unfold State.dueOk at h ⊢
  rw [hs] at h
  rw [ht, hd]
  split at h <;> simp_all

/-- Another station's frame loses its close: the roles on the line stay (R27, R47). -/
theorem State.LineOk.of_withoutClose (ho : ∀ o, s.bus.current ≠ .own o) (step : s.bus.current ≠ .idle → s.bus.inStep = true)
    (due : s.dueOk) (hc : t.bus.current = s.bus.current.withoutClose) (hi : t.bus.inStep = s.bus.inStep)
    (hd : t.bus.due = s.bus.due) (leave : t.sync.leavePending = false) : t.LineOk := by
  cases hcs : s.bus.current with
  | idle =>
    have hct : t.bus.current = .idle := by rw [hc, hcs]; rfl
    exact .of_idle leave hct (State.dueOk_congr (hct.trans hcs.symm) hi hd due)
  | receiving r closes rejecting =>
    have hct : t.bus.current = .receiving r false false := by rw [hc, hcs]; rfl
    exact .of_receiving leave hct (hi.trans (step (by simp [hcs]))) nofun nofun (State.dueOk_receiving hcs hct hd due)
  | own o => exact absurd hcs (ho o)

/-- An IDLE station holds nothing and waits for nothing (R92). -/
theorem State.nowIdle_holdsOk (s : State) : s.nowIdle.HoldsOk := by
  rw [State.nowIdle, State.postAll_eq]
  refine ⟨State.EmptyHanded.syncedOk ⟨rfl, rfl, rfl, rfl, rfl, fun x => by simp⟩, ?_⟩
  exact ⟨nofun, rfl, nofun, rfl, rfl, nofun⟩

theorem State.nowIdle_lineOk (ho : ∀ o, s.bus.current ≠ .own o) (step : s.bus.current ≠ .idle → s.bus.inStep = true)
    (due : s.dueOk) : s.nowIdle.LineOk := by
  refine .of_withoutClose ho step due ?_ ?_ ?_ ?_ <;> rw [State.nowIdle, State.postAll_eq]
  cases s.bus.current <;> rfl

/-- JOIN takes an IDLE station to LISTEN with a PRESENCE pending (R75). -/
theorem State.joinSession_holdsOk (h : s.HoldsOk) (hs : s.sync.state = .idle) : s.joinSession.HoldsOk := by
  have empty := h.synced.emptyHanded (by simp [hs])
  refine ⟨State.EmptyHanded.syncedOk ⟨empty.entries, empty.held, rfl, rfl, rfl, fun x => ?_⟩, ?_⟩
  · simp [State.joinSession, Peer.fresh]
  · exact ⟨nofun, rfl, nofun, rfl, rfl, nofun⟩

theorem State.LineOk.not_own_of_idle (h : s.LineOk) (hs : s.sync.state = .idle) (o : OwnFrame) : s.bus.current ≠ .own o :=
  fun hc => h.flight (State.ownInFlight_of_own hc) hs

/-! ##### The offer point -/

/-- The frame chosen: a WIPE where one is pending, the sendable head, or a frame of another kind (R152). -/
theorem State.choose_cases {f : Frame} (h : s.choose = some f) :
    (∃ g, f = .wipe g ∧ s.sync.wipePending.isSome = true) ∨
      (∃ e, f = .update e.ticket e.op e.index ∧ s.sendableHead = some e) ∨ f.kind ≠ .wipe ∧ f.kind ≠ .update := by
  unfold State.choose at h
  split at h
  · next hw => cases h; exact .inl ⟨_, rfl, hw⟩
  split at h
  · cases h; exact .inr (.inr ⟨nofun, nofun⟩)
  split at h
  · cases h; exact .inr (.inr ⟨nofun, nofun⟩)
  split at h
  · cases h; exact .inr (.inr ⟨nofun, nofun⟩)
  split at h
  · cases h; exact .inr (.inr ⟨nofun, nofun⟩)
  split at h
  · next e he => cases h; exact .inr (.inl ⟨e, rfl, he⟩)
  · obtain ⟨d, _, rfl⟩ := Option.map_eq_some_iff.mp h
    exact .inr (.inr ⟨nofun, nofun⟩)

/-- The sendable head is the head of a SYNCED station's queue that is not HELD (R54). -/
theorem State.sendableHead_some {e : Entry} (h : s.sendableHead = some e) :
    s.sync.state = .synced ∧ s.update.held = false ∧ ∃ rest, s.update.outbound = e :: rest := by
  unfold State.sendableHead at h
  split at h
  · next hs =>
    obtain ⟨hs, hh⟩ := hs
    exact ⟨hs, by simpa using hh, List.head?_eq_some_iff.mp h⟩
  · cases h

theorem State.drive_keeps (s : State) (f : Frame) :
    (s.drive f).bus = { s.bus with current := .own ⟨f, 0, none, false⟩ } ∧ (s.drive f).update = s.update ∧
      (s.drive f).peers = s.peers ∧ (s.drive f).sync.state = s.sync.state := by
  unfold State.drive
  dsimp only
  split <;> exact ⟨rfl, rfl, rfl, rfl⟩

theorem State.drive_sync (s : State) {f : Frame} (h : f.kind ≠ .wipe) : (s.drive f).sync = s.sync := by
  cases f <;> simp_all [State.drive, Frame.kind]

/-- A station that sends holds what it held; a WIPE that it sends was pending (R89). -/
theorem State.drive_holdsOk {f : Frame} (h : s.HoldsOk) (hf : s.choose = some f) : (s.drive f).HoldsOk := by
  by_cases hk : f.kind = .wipe
  · obtain ⟨g, rfl, hw⟩ | ⟨e, rfl, _⟩ | ⟨hn, _⟩ := State.choose_cases hf
    · exact ⟨{ h.synced with wipe := fun _ => h.synced.wipe hw }, { h.timers with }⟩
    · cases hk
    · exact absurd hk hn
  · obtain ⟨_, hu, hp, _⟩ := s.drive_keeps f
    exact h.congr hu (s.drive_sync hk) hp

/-- The own frame chosen in step is in flight: where it is an UPDATE, it is the head (R54, R55). -/
theorem State.drive_lineOk {f : Frame} (hf : s.choose = some f) (hs : s.sync.state ≠ .idle) (step : s.bus.inStep = true)
    (hd : s.bus.due = none) : (s.drive f).LineOk := by
  obtain ⟨hb, hu, _, hst⟩ := s.drive_keeps f
  refine .of_own (o := ⟨f, 0, none, false⟩) (by rw [hb]) (by rwa [hst]) (by rw [hb]; exact step)
    (State.dueOk_none (by rw [hb]; exact hd)) fun ticket op index hfr => ?_
  obtain rfl : f = .update ticket op index := hfr
  obtain ⟨g, hg, _⟩ | ⟨e, he, hh⟩ | ⟨_, hn⟩ := State.choose_cases hf
  · cases hg
  · cases he
    obtain ⟨hsy, hheld, rest, hq⟩ := State.sendableHead_some hh
    exact ⟨hst.trans hsy, by rw [hu, hheld], e, rest, by rw [hu, hq], rfl, rfl, rfl⟩
  · exact absurd rfl hn

theorem State.offer_roles (h : s.HoldsOk) (hl : s.LineOk) (step : s.bus.inStep = true) (hd : s.bus.due = none) :
    s.offer.HoldsOk ∧ s.offer.LineOk := by
  unfold State.offer
  split <;> [skip; (split <;> [skip; split])]
  · exact ⟨h, hl⟩
  · exact ⟨h.congr rfl rfl rfl, hl.congr rfl rfl rfl⟩
  · next hs _ _ f hf => exact ⟨State.drive_holdsOk h hf, State.drive_lineOk hf hs step hd⟩
  · exact ⟨h, hl⟩

/-! ##### The ends of frames -/

/-- The line's part of an own DISCARDED close, then its source's: an own head fails while the queue is not HELD. -/
theorem State.acts_settleDiscarded {f : Frame} (hh : f.kind = .update → s.update.held = false) :
    s.Acts (s.settleDiscarded f) := by
  cases f with
  | update => exact State.acts_failHead (hh rfl)
  | snapshot => exact State.acts_failSegment
  | _ => exact .refl s

theorem State.Acts.free (a : s.Acts t) (hc : s.bus.current = .idle) (hd : s.bus.due = none) :
    t.bus.current = .idle ∧ t.bus.due = none := by
  rw [a.line]; exact ⟨hc, hd⟩

/-- The line is free, no event due and no leave pending. -/
theorem State.LineOk.of_free (hc : s.bus.current = .idle) (hd : s.bus.due = none) (leave : s.sync.leavePending = false) :
    s.LineOk :=
  .of_idle leave hc (State.dueOk_none hd)

/-- After an own close the line is free, and a deferred leave has taken the station to IDLE (R93). -/
theorem State.afterOwnClose_roles (h : s.HoldsOk) (hc : s.bus.current = .idle) (hd : s.bus.due = none) :
    (s.afterOwnClose true).HoldsOk ∧ (s.afterOwnClose true).LineOk := by
  unfold State.afterOwnClose
  split
  · rw [State.goIdle_eq]
    exact ⟨State.nowIdle_holdsOk s, State.nowIdle_lineOk (by simp [hc]) (absurd hc) (State.dueOk_none hd)⟩
  · next hl => exact ⟨h, .of_free hc hd (by simpa using hl)⟩

theorem State.afterDiscarded_free (s : State) (f : Frame) (spoiled : Bool) :
    (s.afterDiscarded f spoiled).bus.current = .idle ∧ (s.afterDiscarded f spoiled).bus.due = s.bus.due := by
  cases spoiled <;> exact ⟨rfl, rfl⟩

theorem State.spoilCounted_keeps (s : State) (spoiled : Bool) :
    (s.spoilCounted spoiled).bus = { s.bus with spoilStreak := (s.spoilCounted spoiled).bus.spoilStreak } ∧
      (s.spoilCounted spoiled).update = s.update ∧ (s.spoilCounted spoiled).sync = s.sync ∧
      (s.spoilCounted spoiled).peers = s.peers := by
  unfold State.spoilCounted
  split <;> [skip; split] <;> exact ⟨rfl, rfl, rfl, rfl⟩

/-- A received frame is on the line, so no leave waits for an own one. -/
theorem State.LineOk.leave_receiving {r : Reader} {closes rejecting : Bool} (h : s.LineOk)
    (hc : s.bus.current = .receiving r closes rejecting) : s.sync.leavePending = false :=
  h.leave_free fun o ho => by cases hc.symm.trans ho

theorem State.badClose_roles (h : s.HoldsOk) (hd : s.bus.due = none) (leave : s.sync.leavePending = false) (rejecting : Bool) :
    (s.badClose rejecting).HoldsOk ∧ (s.badClose rejecting).LineOk := by
  have ended : s.afterBad.HoldsOk := h.congr rfl rfl rfl
  cases rejecting with
  | true =>
    rw [State.badClose_rejecting]
    exact ⟨h.congr rfl rfl rfl, .of_free rfl hd leave⟩
  | false =>
    by_cases hs : s.sync.state = .synced ∧ s.port.inEffect.rejectBudget ≤ s.bus.rejectStreak
    · have left : s.afterBad.Acts (s.afterBad.leaveSynced .missedFrame) := State.acts_leaveSynced (s := s.afterBad) hs.1 _
      rw [State.badClose_spent hs.1 hs.2, ← State.leaveSynced_eq]
      obtain ⟨hc, hd⟩ := left.free rfl hd
      exact ⟨left.holds ended, .of_free hc hd (left.leave.trans leave)⟩
    · rw [State.badClose_kept (by rwa [not_and_or, not_le] at hs)]
      exact ⟨ended, .of_free rfl hd leave⟩

/-- The station stops following the frame and is out of step (R145). -/
def State.outOfStep (s : State) (how : PlaceLoss) : State :=
  { s with
    bus      := { s.bus with inStep := false, recessiveRun := runAfterLoss how, current := .idle, badTail := false }
    selector := { s.selector with winStreak := 0 } }

theorem State.losePlace_eq (s : State) (how : PlaceLoss) :
    s.losePlace how = if s.sync.state = .synced then (s.outOfStep how).leaveSynced .missedFrame else s.outOfStep how := rfl

theorem State.losePlace_roles (h : s.HoldsOk) (hd : s.bus.due = none) (leave : s.sync.leavePending = false) (how : PlaceLoss) :
    (s.losePlace how).HoldsOk ∧ (s.losePlace how).LineOk := by
  have out : (s.outOfStep how).HoldsOk := h.congr rfl rfl rfl
  rw [State.losePlace_eq]
  split
  · next hs =>
    have left := State.acts_leaveSynced (s := s.outOfStep how) hs .missedFrame
    obtain ⟨hc, hd⟩ := left.free rfl hd
    exact ⟨left.holds out, .of_free hc hd (left.leave.trans leave)⟩
  · exact ⟨out, .of_free rfl hd leave⟩

theorem BusInterface.loseArbitration_cases (bus : BusInterface) (o : OwnFrame) (number : Station) :
    ((bus.loseArbitration o number).current = .idle ∨ ∃ r, (bus.loseArbitration o number).current = .receiving r true false) ∧
      (bus.loseArbitration o number).inStep = bus.inStep ∧ (bus.loseArbitration o number).due = bus.due ∧
      (bus.loseArbitration o number).rejectStreak = bus.rejectStreak := by
  unfold BusInterface.loseArbitration
  split
  · exact ⟨.inl rfl, rfl, rfl, rfl⟩
  · exact ⟨.inr ⟨_, rfl⟩, rfl, rfl, rfl⟩

/-- The own frame lost: the station follows the winning frame or none, and a deferred leave takes it to IDLE (R93, R149). -/
theorem State.lost_roles {o : OwnFrame} (h : s.HoldsOk) (hl : s.LineOk) (hd : s.bus.due = none) (ho : s.bus.current = .own o) :
    let lost : State := { s with bus := s.bus.loseArbitration o s.number, selector := { s.selector with winStreak := 0 } }
    let t := if s.sync.leavePending then lost.nowIdle else lost
    t.HoldsOk ∧ t.LineOk := by
  intro lost t
  have hi : s.sync.state ≠ .idle := hl.flight (State.ownInFlight_of_own ho)
  have step : s.bus.inStep = true := hl.step (by simp [ho])
  obtain ⟨hc, step', hd', _⟩ := s.bus.loseArbitration_cases o s.number
  have hn (o' : OwnFrame) : lost.bus.current ≠ .own o' := by
    obtain hc | ⟨r, hc⟩ := hc <;> exact fun ho' => nomatch hc.symm.trans ho'
  cases hlp : s.sync.leavePending with
  | true =>
    simp only [t, hlp, if_true]
    exact ⟨State.nowIdle_holdsOk _, State.nowIdle_lineOk hn (fun _ => step'.trans step) (State.dueOk_none (hd'.trans hd))⟩
  | false =>
    simp only [t, hlp, Bool.false_eq_true, if_false]
    refine ⟨h.congr rfl rfl rfl, ?_⟩
    obtain hc | ⟨r, hc⟩ := hc
    · exact .of_free hc (hd'.trans hd) hlp
    · exact .of_receiving hlp hc (step'.trans step) (fun _ => hi) nofun (State.dueOk_none (hd'.trans hd))

end

/-- Every move of a command keeps the roles. -/
theorem State.ExecMove.roles {s t : State} {c : Instr} (m : s.ExecMove c t) (h : s.HoldsOk) (hl : s.LineOk) :
    t.HoldsOk ∧ t.LineOk := by
  cases m with
  | aside a => exact ⟨a.acts.holds h, hl.aside a⟩
  | reset hx =>
    obtain rfl := Host.Outcome.next.inj hx
    obtain ⟨rh, rl⟩ := State.reset_holdsOk_lineOk
    exact ⟨rh.congr rfl rfl rfl, rl.congr rfl rfl rfl⟩
  | joined idle =>
    refine ⟨(State.joinSession_holdsOk h idle).congr rfl rfl rfl, ?_⟩
    exact .of_withoutClose (hl.not_own_of_idle idle) hl.step hl.due rfl rfl rfl rfl
  | left active free =>
    refine ⟨(State.nowIdle_holdsOk s).congr rfl rfl rfl, ?_⟩
    refine State.LineOk.congr (s := s.nowIdle) (State.nowIdle_lineOk (fun o ho => ?_) hl.step hl.due) rfl rfl rfl
    simp [State.ownInFlight_of_own ho] at free
  | leavePends active flight =>
    exact ⟨⟨{ h.synced with }, { h.timers with }⟩, { hl with leave := fun _ => flight }⟩
  | follows followed => exact ⟨h.congr rfl rfl rfl, (hl.follow followed).congr rfl rfl rfl⟩
  | offered heard =>
    obtain ⟨ul, hd, due⟩ := hl.heard heard
    exact State.offer_roles (State.heard_holdsOk heard h) ul due.2 hd
  | lost heard own hx =>
    obtain ⟨ul, hd, _⟩ := hl.heard heard
    cases hx.symm.trans (exec_lostArbitration heard own)
    exact State.lost_roles (State.heard_holdsOk heard h) ul hd own
  | spoiled heard own =>
    obtain ⟨ul, hd, _⟩ := hl.heard heard
    refine ⟨(State.heard_holdsOk heard h).congr rfl rfl rfl, ?_⟩
    exact .of_own rfl (ul.flight (State.ownInFlight_of_own own)) (ul.step (by simp [own])) (State.dueOk_none hd)
      fun ticket op index hf => ul.head _ ticket op index own hf
  | @lostPlace line u how heard =>
    obtain ⟨ul, hd, due⟩ := hl.heard heard
    refine State.losePlace_roles (State.heard_holdsOk heard h) hd (ul.leave_free fun o ho => ?_) how
    cases how with
    | elevenRecessive =>
      obtain ⟨r, closes, rejecting, hc⟩ := due
      cases hc.symm.trans ho
    | dominantAfterEnd => cases due.1.symm.trans ho
  | @regained line u how heard =>
    obtain ⟨ul, hd, due⟩ := hl.heard heard
    have hc : u.bus.current = .idle := due.1
    have leave := ul.leave_free fun o ho => by cases hc.symm.trans ho
    have hu := State.heard_holdsOk heard h
    cases how with
    | startBit =>
      exact ⟨hu.congr rfl rfl rfl,
        .of_receiving leave rfl rfl (fun ht => of_decide_eq_true ht) nofun (State.dueOk_none hd)⟩
    | longRun => exact ⟨hu.congr rfl rfl rfl, .of_idle leave hc ⟨hc, rfl⟩⟩
  | @ended _ line u bad heard noClose =>
    obtain ⟨ul, hd, _⟩ := hl.heard heard
    refine ⟨(State.heard_holdsOk heard h).congr rfl rfl rfl, .of_free rfl hd (ul.leave_free fun o ho => ?_)⟩
    have := ul.flight (State.ownInFlight_of_own ho)
    simp [State.handsClose, this, ho] at noClose
  | badClosed hears bad =>
    obtain ⟨ul, hd, _⟩ := hl.heard hears.1
    exact State.badClose_roles (State.heard_holdsOk hears.1 h) hd (ul.leave_receiving hears.2.2) _
  | discardedReceived hears discarded =>
    obtain ⟨ul, hd, _⟩ := hl.heard hears.1
    exact ⟨(State.heard_holdsOk hears.1 h).congr rfl rfl rfl, .of_free rfl hd (ul.leave_receiving hears.2.2)⟩
  | @discardedOwn line o u sends discarded =>
    obtain ⟨ul, hd, _⟩ := hl.heard sends.1
    have ended : (u.afterDiscarded o.frame o.spoil.isSome).HoldsOk :=
      (State.heard_holdsOk sends.1 h).congr (by simp) (by simp) (by simp)
    have settled := State.acts_settleDiscarded (s := u.afterDiscarded o.frame o.spoil.isSome) (f := o.frame) fun hk => by
      obtain ⟨ticket, op, i, hf⟩ := Frame.eq_update hk
      rw [State.afterDiscarded_update]
      exact (ul.head o ticket op i sends.2.2 hf).2.1
    obtain ⟨hc, hd'⟩ := u.afterDiscarded_free o.frame o.spoil.isSome
    obtain ⟨hc, hd'⟩ := settled.free hc (hd'.trans hd)
    obtain ⟨hb, hu, hsy, hp⟩ := ((u.afterDiscarded o.frame o.spoil.isSome).settleDiscarded o.frame).spoilCounted_keeps
      o.spoil.isSome
    exact State.afterOwnClose_roles ((settled.holds ended).congr hu hsy hp) (by rw [hb]; exact hc) (by rw [hb]; exact hd')
  | @committedReceived line r rejecting x f u act hears committed acts =>
    obtain ⟨ul, hd, _⟩ := hl.heard hears.1
    have a := acts.acts ⟨x, false, f⟩ u.afterReceived nofun
    obtain ⟨hc, hd'⟩ := a.free rfl hd
    exact ⟨a.holds ((State.heard_holdsOk hears.1 h).congr rfl rfl rfl),
      .of_free hc hd' (a.leave.trans (ul.leave_receiving hears.2.2))⟩
  | @committedOwn line o u act sends spoil rejected acts =>
    obtain ⟨ul, hd, _⟩ := hl.heard sends.1
    have a := acts.acts ⟨u.number, true, o.frame⟩ (u.afterSent o.frame) fun _ hk => by
      obtain ⟨ticket, op, i, hf⟩ := Frame.eq_update hk
      exact (ul.head o ticket op i sends.2.2 hf).2.1
    obtain ⟨hc, hd'⟩ := a.free rfl hd
    exact State.afterOwnClose_roles (a.holds ((State.heard_holdsOk sends.1 h).congr rfl rfl rfl)) hc hd'

/-! ### The reject streak (R35) -/

section
variable {s t u : State}

theorem State.heard_rejectStreak {line : Levels} {event : LineEvent} (hu : s.heard line = some (event, u)) :
    u.bus.rejectStreak = s.bus.rejectStreak := by
  obtain ⟨bus, hf, _, rfl⟩ := State.heard_iff.mp hu
  exact (BusInterface.follow_keeps hf).2.2.1

/-- No level read begins an own frame. -/
theorem BusInterface.hear_own_origin {e : Ear} {bus : BusInterface} {b : Bool} {o' : OwnFrame}
    (h : (bus.hear e b).current = .own o') : ∃ o, bus.current = .own o := by
  cases hc : bus.current with
  | idle =>
    simp only [BusInterface.hear, hc, BusInterface.hearIdle, BusInterface.hearOutOfStep] at h
    split_ifs at h
  | receiving r closes rejecting =>
    rw [BusInterface.hear_receiving hc, BusInterface.hearFrame_eq] at h
    split_ifs at h
  | own o => exact ⟨o, rfl⟩

theorem State.heard_ownInFlight {line : Levels} {event : LineEvent} (hu : s.heard line = some (event, u)) {o' : OwnFrame}
    (ho : u.bus.current = .own o') : s.ownInFlight = true := by
  obtain ⟨bus, hf, _, rfl⟩ := State.heard_iff.mp hu
  have origin := BusInterface.follow_induction (P := fun x => (∃ o, x.current = .own o) → ∃ o, s.bus.current = .own o)
    (fun x b _ h ⟨_, hx⟩ => h (BusInterface.hear_own_origin hx)) id hf
  exact State.ownInFlight_iff.mpr (origin ⟨o', ho⟩)

/-- Going IDLE and leaving SYNCED turn the streak to 0. -/
theorem State.nowIdle_turn (hs : s.sync.state ≠ .idle) : s.Turn s.nowIdle := by
  rw [State.nowIdle, State.postAll_eq]
  refine .inr ⟨rfl, fun h => hs ?_⟩
  cases hst : s.sync.state <;> rw [hst] at h <;> cases h

theorem State.nowIdle_rejectStreak (s : State) : s.nowIdle.bus.rejectStreak = 0 := by
  rw [State.nowIdle, State.postAll_eq]

theorem State.leaveSynced_turn (hs : s.sync.state = .synced) (cause : Cause) : s.Turn (s.leaveSynced cause) := by
  rw [State.leaveSynced_eq, State.outOfSynced, State.postAll_eq]
  exact .inr ⟨rfl, by rw [hs]; nofun⟩

/-- What came before kept the streak and the station state. -/
theorem State.Turn.after (h : t.Turn u) (hr : t.bus.rejectStreak = s.bus.rejectStreak) (hs : t.sync.state = s.sync.state) :
    s.Turn u := by
  rw [State.Turn, ← hr, ← hs]; exact h

theorem State.Turn.of_eq (hr : t.bus.rejectStreak = s.bus.rejectStreak) (hs : t.sync.state = s.sync.state) : s.Turn t :=
  .inl ⟨hr, by rw [hs]⟩

/-- The levels keep the streak and the station state. -/
theorem State.heard_turn {line : Levels} {event : LineEvent} (hu : s.heard line = some (event, u)) (h : u.Turn t) : s.Turn t :=
  h.after (State.heard_rejectStreak hu) (State.heard_state hu)

/-- A deferred leave turns the streak to 0, and nothing else follows an own close (R93). -/
theorem State.afterOwnClose_turn (hs : s.sync.state ≠ .idle) : s.Turn (s.afterOwnClose true) := by
  unfold State.afterOwnClose
  split
  · rw [State.goIdle_eq]; exact State.nowIdle_turn hs
  · exact .of_eq rfl rfl

theorem State.afterOwnClose_zero (h : s.bus.rejectStreak = 0) : (s.afterOwnClose true).bus.rejectStreak = 0 := by
  unfold State.afterOwnClose
  split
  · rw [State.goIdle_eq]; exact State.nowIdle_rejectStreak s
  · exact h

@[simp] theorem State.failHead_bus (s : State) : s.failHead.bus = s.bus := by
  unfold State.failHead; split <;> [skip; split <;> [skip; split]] <;> rfl

@[simp] theorem State.failHead_sync (s : State) : s.failHead.sync = s.sync := by
  unfold State.failHead; split <;> [skip; split <;> [skip; split]] <;> rfl

@[simp] theorem State.failSegment_bus (s : State) : s.failSegment.bus = s.bus := by
  unfold State.failSegment; split <;> [rfl; (split <;> [rfl; exact s.endServing_bus _])]

@[simp] theorem State.failSegment_leavePending (s : State) : s.failSegment.sync.leavePending = s.sync.leavePending := by
  unfold State.failSegment; split <;> [rfl; (split <;> [rfl; exact s.endServing_leavePending _])]

theorem State.settleDiscarded_keeps (s : State) (f : Frame) :
    (s.settleDiscarded f).bus = s.bus ∧ (s.settleDiscarded f).sync.leavePending = s.sync.leavePending ∧
      (s.settleDiscarded f).sync.state = s.sync.state := by
  refine ⟨?_, ?_, congrArg Mirror.state (s.settleDiscarded_mirror f)⟩ <;> cases f <;> simp [State.settleDiscarded]

/-- An own spoiled close settles its source and counts the spoil, and the reject streak stays (R35, R38). -/
theorem State.spoiledOwn_keeps (s : State) (f : Frame) :
    let t := ((s.afterDiscarded f true).settleDiscarded f).spoilCounted true
    t.bus.rejectStreak = s.bus.rejectStreak ∧ t.sync.leavePending = s.sync.leavePending ∧ t.sync.state = s.sync.state := by
  intro t
  obtain ⟨hb, hl, hs⟩ := (s.afterDiscarded f true).settleDiscarded_keeps f
  obtain ⟨hb', _, hsync, _⟩ := ((s.afterDiscarded f true).settleDiscarded f).spoilCounted_keeps true
  rw [State.afterDiscarded_sync] at hl hs
  refine ⟨?_, by rw [hsync, hl], by rw [hsync, hs]⟩
  rw [hb', hb]; rfl

theorem State.badClose_turn (s : State) : s.Turn (s.badClose false) := by
  by_cases hs : s.sync.state = .synced ∧ s.port.inEffect.rejectBudget ≤ s.bus.rejectStreak
  · rw [State.badClose_spent hs.1 hs.2, ← State.leaveSynced_eq]
    exact (State.leaveSynced_turn (s := s.afterBad) hs.1 _).after rfl rfl
  · rw [State.badClose_kept (by rwa [not_and_or, not_le] at hs)]
    exact .of_eq rfl rfl

theorem State.losePlace_turn (s : State) (how : PlaceLoss) : s.Turn (s.losePlace how) := by
  rw [State.losePlace_eq]
  split
  · next hs => exact (State.leaveSynced_turn (s := s.outOfStep how) hs _).after rfl rfl
  · exact .of_eq rfl rfl

theorem State.offer_turn (s : State) : s.Turn s.offer := by
  unfold State.offer
  split <;> [skip; (split <;> [skip; split])]
  · exact .of_eq rfl rfl
  · exact .of_eq rfl rfl
  · next f _ =>
    obtain ⟨hb, _, _, hs⟩ := s.drive_keeps f
    exact .of_eq (by rw [hb]) hs
  · exact .of_eq rfl rfl

/-- An intact frame of another station leaves the streak at 0. -/
theorem State.intactClose_rejectStreak {c : Instr} (h : s.intactClose c) (hx : exec c s = .next t) : t.bus.rejectStreak = 0 := by
  obtain ⟨line, r, rejecting, u, hears, ⟨x, f, hc, rfl⟩ | ⟨hd, rfl⟩⟩ := h
  · obtain ⟨act, ha⟩ := closeActs f.kind
    cases hx.symm.trans (exec_committedReceived hears hc ha)
    exact (ha.streak _ _).elim (fun h => h) id
  · cases hx.symm.trans (exec_discardedReceived hears hd)
    rfl

/-- So does an own frame whose readback matched, committed or discarded. -/
theorem State.matchedOwnClose_rejectStreak {c : Instr} {f : Frame} (h : s.matchedOwnClose c f) (hx : exec c s = .next t) :
    t.bus.rejectStreak = 0 := by
  obtain ⟨line, o, u, sends, rfl, hs, rfl⟩ := h
  cases hr : o.rejected with
  | true =>
    rw [hr, if_pos rfl] at hx
    cases hx.symm.trans (exec_discardedOwn sends (.inr hr))
    refine State.afterOwnClose_zero ?_
    rw [hs, Option.isSome_none, State.spoilCounted_false, (State.settleDiscarded_keeps _ _).1]
    rfl
  | false =>
    obtain ⟨act, ha⟩ := closeActs o.frame.kind
    rw [hr, if_neg Bool.false_ne_true] at hx
    cases hx.symm.trans (exec_committedOwn sends hs hr ha)
    exact State.afterOwnClose_zero ((ha.streak _ _).elim (fun h => h) id)

theorem State.spoiledOwnClose_rejectStreak {c : Instr} {f : Frame} (h : s.spoiledOwnClose c f) (hl : s.sync.leavePending = false)
    (hx : exec c s = .next t) : t.bus.rejectStreak = s.bus.rejectStreak := by
  obtain ⟨line, o, u, sends, rfl, hs, rfl⟩ := h
  cases hx.symm.trans (exec_discardedOwn sends (.inl hs))
  obtain ⟨hr, hl', _⟩ := u.spoiledOwn_keeps o.frame
  have hu : u.sync.leavePending = false := by rwa [State.heard_keeps sends.1]
  rw [hs, State.afterOwnClose_eq (.inr (hl'.trans hu)), hr, State.heard_rejectStreak sends.1]

/-- But for the closes that count or clear it, and a reset, each move turns the streak with the station state; a deferred leave of a
station that is IDLE with an own frame in flight clears it all the same. -/
theorem State.ExecMove.turn {c : Instr} (m : s.ExecMove c t) (bad : ¬ s.badFrameCloses c true) (intact : ¬ s.intactClose c)
    (matched : ¬ ∃ f, s.matchedOwnClose c f) (reset : ¬ ∃ sn br low, c = .hardReset sn br low) :
    s.Turn t ∨ s.sync.state = .idle ∧ s.ownInFlight = true ∧ t.bus.rejectStreak = 0 := by
  cases m with
  | aside a => exact .inl a.turn
  | reset => exact absurd ⟨_, _, _, rfl⟩ reset
  | joined idle => exact .inl (.inr ⟨rfl, by rw [idle]; nofun⟩)
  | left active => exact .inl (State.nowIdle_turn active)
  | leavePends => exact .inl (.of_eq rfl rfl)
  | follows followed => exact .inl (.of_eq (BusInterface.follow_keeps followed).2.2.1 rfl)
  | offered heard => exact .inl (State.heard_turn heard (State.offer_turn _))
  | @lost line u _ o heard own hx =>
    cases hx.symm.trans (exec_lostArbitration heard own)
    have hr := (u.bus.loseArbitration_cases o u.number).2.2.2
    have hs := State.heard_state heard
    split
    · by_cases hi : s.sync.state = .idle
      · exact .inr ⟨hi, State.heard_ownInFlight heard own, State.nowIdle_rejectStreak _⟩
      · exact .inl (State.heard_turn heard (State.Turn.after (State.nowIdle_turn (show u.sync.state ≠ _ from hs ▸ hi)) hr rfl))
    · exact .inl (State.heard_turn heard (.of_eq hr rfl))
  | spoiled heard => exact .inl (State.heard_turn heard (.of_eq rfl rfl))
  | lostPlace heard => exact .inl (State.heard_turn heard (State.losePlace_turn _ _))
  | @regained line u how heard => cases how <;> exact .inl (State.heard_turn heard (.of_eq rfl rfl))
  | ended heard => exact .inl (State.heard_turn heard (.of_eq rfl rfl))
  | @badClosed line r rejecting u hears hb =>
    cases rejecting with
    | true => exact absurd ⟨line, r, u, hears, hb, rfl⟩ bad
    | false => exact .inl (State.heard_turn hears.1 (State.badClose_turn _))
  | discardedReceived hears hd => exact absurd ⟨_, _, _, _, hears, .inr ⟨hd, rfl⟩⟩ intact
  | @discardedOwn line o u sends hd =>
    cases hs : o.spoil.isSome with
    | false =>
      have hr : o.rejected = true := by simpa [hs] using hd
      exact absurd ⟨_, line, o, u, sends, rfl, by simpa using hs, by rw [hr, if_pos rfl]⟩ matched
    | true =>
      obtain ⟨hr, _, hst⟩ := u.spoiledOwn_keeps o.frame
      exact .inl (State.heard_turn sends.1 ((State.afterOwnClose_turn (by rw [hst]; exact sends.2.1)).after hr hst))
  | committedReceived hears hc => exact absurd ⟨_, _, _, _, hears, .inl ⟨_, _, hc, rfl⟩⟩ intact
  | @committedOwn line o u act sends hs hr =>
    exact absurd ⟨_, line, o, u, sends, rfl, hs, by rw [hr, if_neg Bool.false_ne_true]⟩ matched

end

/-! ### Numbers and bytes as bits (R141, R158) -/

@[simp] theorem bitsOf_length (n v : Nat) : (bitsOf n v).length = n := by
  induction n with
  | zero => rfl
  | succ n ih => simp [bitsOf, ih]

theorem numberOf_append_singleton (bits : Levels) (b : Bool) : numberOf (bits ++ [b]) = 2 * numberOf bits + b.toNat := by
  simp [numberOf]

/-- The lowest bit is sent last. -/
theorem bitsOf_succ (n v : Nat) : bitsOf (n + 1) v = bitsOf n (v / 2) ++ [v.testBit 0] := by
  induction n generalizing v with
  | zero => rfl
  | succ n ih => rw [bitsOf, ih, bitsOf, Nat.testBit_succ]; rfl

/-- A number that fits is read back from its bits. -/
theorem numberOf_bitsOf {n v : Nat} (h : v < 2 ^ n) : numberOf (bitsOf n v) = v := by
  induction n generalizing v with
  | zero => simp [bitsOf, numberOf] at h ⊢; omega
  | succ n ih =>
    rw [bitsOf_succ, numberOf_append_singleton, ih (by rw [Nat.pow_succ] at h; omega)]
    rw [Nat.testBit_zero]
    rcases Nat.mod_two_eq_zero_or_one v with hv | hv <;> simp [hv] <;> omega

@[simp] theorem numberOf_bitsOf_bitVec {w : Nat} (v : BitVec w) : numberOf (bitsOf w v.toNat) = v.toNat := numberOf_bitsOf v.isLt

@[simp] theorem bytesBits_cons (b : Byte) (bytes : List Byte) : bytesBits (b :: bytes) = bitsOf 8 b.toNat ++ bytesBits bytes := rfl

@[simp] theorem bytesBits_length (bytes : List Byte) : (bytesBits bytes).length = 8 * bytes.length := by
  induction bytes with
  | nil => rfl
  | cons b bytes ih => simp [ih]; omega

/-- Bytes are read back from their bits, whatever follows them. -/
theorem bytesOf_bytesBits (bytes : List Byte) (rest : Levels) : bytesOf bytes.length (bytesBits bytes ++ rest) = bytes := by
  induction bytes with
  | nil => rfl
  | cons b bytes ih =>
    have h8 : (bitsOf 8 b.toNat).length = 8 := bitsOf_length _ _
    rw [List.length_cons, bytesOf, bytesBits_cons, List.append_assoc, List.take_left' h8, List.drop_left' h8, ih,
      numberOf_bitsOf_bitVec]
    simp [byteOf]

/-! ### Inserted bits (R142) -/

/-- The run after one more field bit, and after the bit inserted before it where six equal bits stood. -/
def Run.next (r : Run) (b : Bool) : Run :=
  if r.count = 6 then Run.push { r with level := !r.level, count := 1 } b else r.push b

/-- At most six equal bits stand, and the frame is not broken. -/
structure Run.Sound (r : Run) : Prop where
  some    : 1 ≤ r.count
  atMost  : r.count ≤ 6
  intact  : r.broken = false

theorem Run.start_sound : Run.start.Sound := ⟨by decide, by decide, rfl⟩

theorem Run.push_sound {r : Run} (h : r.Sound) (hc : r.count < 6) (b : Bool) : (r.push b).Sound := by
  unfold Run.push
  split
  · exact ⟨Nat.succ_pos _, hc, h.intact⟩
  · exact ⟨Nat.one_pos, Nat.le_of_ble_eq_true rfl, h.intact⟩

/-- The run that an inserted bit begins. -/
def Run.inserted (r : Run) : Run := { r with level := !r.level, count := 1 }

theorem Run.inserted_sound {r : Run} (h : r.Sound) : r.inserted.Sound :=
  ⟨Nat.one_pos, Nat.le_of_ble_eq_true rfl, h.intact⟩

theorem Run.next_sound {r : Run} (h : r.Sound) (b : Bool) : (r.next b).Sound := by
  unfold Run.next
  split
  · exact Run.push_sound (Run.inserted_sound h) (by simp [Run.inserted]) b
  · exact Run.push_sound h (Nat.lt_of_le_of_ne h.atMost ‹_›) b

/-- What the sender drives for one more field bit: after six equal bits, the opposite one first. -/
theorem stuff_cons (r : Run) (b : Bool) (bits : Levels) :
    stuff r (b :: bits) = (if r.count = 6 then [!r.level] else []) ++ b :: stuff (r.next b) bits := by
  rw [stuff, Run.next]
  split <;> rfl

/-! ### A receiver of stuffed field bits (R142, R144) -/

/-- Recessive levels that a run of equal bits has at most. -/
def Run.recessive (r : Run) : Nat := if r.level then r.count else 0

/-- A receiver inside the fields of a sound frame: the recessive levels read last are part of the run of equal bits. -/
structure Reader.Sound (r : Reader) : Prop where
  run       : r.run.Sound
  tail      : r.tail = []
  recessive : r.recessive ≤ r.run.recessive

/-- Field bits taken one by one, the inserted bits left out. -/
def Reader.takeAll (r : Reader) : Levels → Reader
  | [] => r
  | b :: bits => (r.take b (r.run.next b)).takeAll bits

/-- Every one of the bits is a field bit still to come. -/
def Reader.Expects (r : Reader) : Levels → Prop
  | [] => True
  | b :: bits => 0 < r.left ∧ (r.take b (r.run.next b)).Expects bits

/-- At each level the receiver is inside the fields, with no eleven recessive levels in a row. -/
def Reader.Calm (r : Reader) : Levels → Prop
  | [] => True
  | b :: line => (r.hear b).tail = [] ∧ (r.hear b).recessive < 11 ∧ (r.hear b).Calm line

theorem Reader.hearAll_cons (r : Reader) (b : Bool) (line : Levels) : r.hearAll (b :: line) = (r.hear b).hearAll line := rfl

@[simp] theorem Reader.take_run (r : Reader) (b : Bool) (run : Run) : (r.take b run).run = run := by
  unfold Reader.take; dsimp only; split <;> [split; skip] <;> rfl

@[simp] theorem Reader.take_tail (r : Reader) (b : Bool) (run : Run) : (r.take b run).tail = r.tail := by
  unfold Reader.take; dsimp only; split <;> [split; skip] <;> rfl

theorem Reader.take_withRun (r : Reader) (b : Bool) (run run' : Run) : Reader.take { r with run := run' } b run = r.take b run :=
  rfl

/-- The receiver with `n` recessive levels counted. -/
def Reader.counting (r : Reader) (n : Nat) : Reader := { r with recessive := n }

@[simp] theorem Reader.counting_fields (r : Reader) (n : Nat) : (r.counting n).fields = r.fields := rfl
@[simp] theorem Reader.counting_left (r : Reader) (n : Nat) : (r.counting n).left = r.left := rfl
@[simp] theorem Reader.counting_placed (r : Reader) (n : Nat) : (r.counting n).placed = r.placed := rfl
@[simp] theorem Reader.counting_run (r : Reader) (n : Nat) : (r.counting n).run = r.run := rfl
@[simp] theorem Reader.counting_tail (r : Reader) (n : Nat) : (r.counting n).tail = r.tail := rfl
@[simp] theorem Reader.counting_recessive (r : Reader) (n : Nat) : (r.counting n).recessive = n := rfl
@[simp] theorem Reader.counting_counting (r : Reader) (m n : Nat) : (r.counting m).counting n = r.counting n := rfl

/-- What is taken does not depend on the recessive levels counted. -/
@[simp] theorem Reader.take_counting (r : Reader) (b : Bool) (run : Run) (n : Nat) :
    (r.counting n).take b run = (r.take b run).counting n := by
  unfold Reader.take Reader.counting
  dsimp only
  split
  · cases r.placed <;> rfl
  · rfl

@[simp] theorem Reader.takeAll_counting (r : Reader) (bits : Levels) (n : Nat) :
    (r.counting n).takeAll bits = (r.takeAll bits).counting n := by
  induction bits generalizing r with
  | nil => rfl
  | cons b bits ih => rw [Reader.takeAll, Reader.take_counting, ih]; rfl

@[simp] theorem Reader.expects_counting (r : Reader) (bits : Levels) (n : Nat) :
    (r.counting n).Expects bits ↔ r.Expects bits := by
  induction bits generalizing r with
  | nil => rfl
  | cons b bits ih => rw [Reader.Expects, Reader.take_counting, ih]; rfl

/-- A field bit within a run of fewer than six. -/
theorem Reader.hear_field {r : Reader} (h : r.Sound) (hl : 0 < r.left) (hc : r.run.count ≠ 6) (b : Bool) :
    ∃ n, r.hear b = (r.take b (r.run.push b)).counting n ∧ n ≤ (r.run.push b).recessive := by
  refine ⟨if b then r.recessive + 1 else 0, ?_, ?_⟩
  · rw [← Reader.take_counting]
    simp only [Reader.hear, hl.ne', if_false, hc]
    rfl
  · have hr := h.recessive
    unfold Run.recessive Run.push at *
    cases b <;> cases hrl : r.run.level <;> simp [hrl] at hr ⊢
    · exact hr
    · exact hr

/-- The bit inserted after six equal ones is removed. -/
theorem Reader.hear_inserted {r : Reader} (h : r.Sound) (hl : 0 < r.left) (hc : r.run.count = 6) :
    ∃ n, r.hear (!r.run.level) = Reader.counting { r with run := r.run.inserted } n ∧ n ≤ r.run.inserted.recessive := by
  refine ⟨if !r.run.level then r.recessive + 1 else 0, ?_, ?_⟩
  · simp [Reader.hear, hl.ne', hc, Run.inserted, Reader.counting]
  · have hr := h.recessive
    unfold Run.recessive Run.inserted at *
    cases hrl : r.run.level <;> simp [hrl] at hr ⊢
    exact hr

theorem Reader.Sound.lt_eleven {r : Reader} (h : r.Sound) : r.recessive < 11 := by
  have hr := h.recessive
  have hc := h.run.atMost
  unfold Run.recessive at hr
  split at hr <;> omega

theorem Reader.Sound.take {r : Reader} (h : r.Sound) (b : Bool) {n : Nat} (hn : n ≤ (r.run.next b).recessive) :
    ((r.take b (r.run.next b)).counting n).Sound where
  run       := by simpa using Run.next_sound h.run b
  tail      := by simpa using h.tail
  recessive := by simpa using hn

/-- One field bit, with the bit inserted before it where six equal ones stood: the receiver takes it and stays calm. -/
theorem Reader.hear_stuffed {r : Reader} (h : r.Sound) (hl : 0 < r.left) (b : Bool) (line : Levels) :
    ∃ n, ((r.take b (r.run.next b)).counting n).Sound ∧
      r.hearAll ((if r.run.count = 6 then [!r.run.level] else []) ++ b :: line) =
        ((r.take b (r.run.next b)).counting n).hearAll line ∧
      (r.Calm ((if r.run.count = 6 then [!r.run.level] else []) ++ b :: line) ↔
        ((r.take b (r.run.next b)).counting n).Calm line) := by
  by_cases hc : r.run.count = 6
  · obtain ⟨m, hm, hmle⟩ := Reader.hear_inserted h hl hc
    have inserted : (Reader.counting { r with run := r.run.inserted } m).Sound := ⟨Run.inserted_sound h.run, h.tail, hmle⟩
    obtain ⟨n, hn, hnle⟩ := Reader.hear_field inserted hl (by simp [Run.inserted]) b
    have next : r.run.next b = r.run.inserted.push b := if_pos hc
    have sound := h.take b (n := n) (by rw [next]; exact hnle)
    rw [Reader.take_counting, Reader.counting_counting, Reader.take_withRun] at hn
    rw [Reader.counting_run, ← next] at hn
    refine ⟨n, sound, ?_, ?_⟩
    · rw [if_pos hc, List.singleton_append, Reader.hearAll_cons, Reader.hearAll_cons, hm, hn]
    · rw [if_pos hc, List.singleton_append, Reader.Calm, Reader.Calm, hm, hn]
      exact ⟨fun hcalm => hcalm.2.2.2.2, fun hcalm => ⟨h.tail, inserted.lt_eleven, sound.tail, sound.lt_eleven, hcalm⟩⟩
  · obtain ⟨n, hn, hnle⟩ := Reader.hear_field h hl hc b
    have next : r.run.next b = r.run.push b := if_neg hc
    rw [← next] at hn hnle
    have sound := h.take b hnle
    refine ⟨n, sound, ?_, ?_⟩
    · rw [if_neg hc, List.nil_append, Reader.hearAll_cons, hn]
    · rw [if_neg hc, List.nil_append, Reader.Calm, hn]
      exact ⟨fun hcalm => hcalm.2.2, fun hcalm => ⟨sound.tail, sound.lt_eleven, hcalm⟩⟩

/-- A receiver takes every field bit that its sender stuffs, and no inserted one, and stays calm (R142). -/
theorem Reader.hearAll_stuff {r : Reader} (h : r.Sound) {bits : Levels} (he : r.Expects bits) :
    (∃ n, r.hearAll (stuff r.run bits) = (r.takeAll bits).counting n) ∧ r.Calm (stuff r.run bits) := by
  induction bits generalizing r with
  | nil => exact ⟨⟨r.recessive, rfl⟩, trivial⟩
  | cons b bits ih =>
    obtain ⟨hl, he⟩ := he
    obtain ⟨n, sound, hear, calm⟩ := Reader.hear_stuffed h hl b (stuff (r.run.next b) bits)
    obtain ⟨⟨m, hm⟩, hcalm⟩ := ih sound ((Reader.expects_counting _ _ _).mpr he)
    rw [Reader.counting_run, Reader.take_run] at hm hcalm
    rw [stuff_cons, hear, calm, Reader.takeAll, hm, Reader.takeAll_counting, Reader.counting_counting]
    exact ⟨⟨m, rfl⟩, hcalm⟩

/-! #### The fields of a frame (R141, R144) -/

/-- The run of equal bits after a run of field bits. -/
def Run.after (r : Run) (bits : Levels) : Run := bits.foldl Run.next r

theorem Run.after_sound {r : Run} (h : r.Sound) (bits : Levels) : (r.after bits).Sound := by
  induction bits generalizing r with
  | nil => exact h
  | cons b bits ih => exact ih (Run.next_sound h b)

/-- A field bit that does not end the length field. -/
theorem Reader.take_plain {r : Reader} (hp : r.placed = none → 1 < r.left) (b : Bool) (run : Run) :
    r.take b run = { r with fields := b :: r.fields, left := r.left - 1, run := run } := by
  unfold Reader.take
  dsimp only
  split
  · next h1 =>
    split
    · next hn => exact absurd (hp hn) (by omega)
    · rw [h1]
  · rfl

/-- Field bits that do not end the length field. -/
theorem Reader.takeAll_plain {r : Reader} {bits : Levels} (hl : bits.length ≤ r.left)
    (hp : r.placed = none → bits.length < r.left) :
    r.takeAll bits =
        { r with fields := bits.reverse ++ r.fields, left := r.left - bits.length, run := r.run.after bits } ∧
      r.Expects bits := by
  induction bits generalizing r with
  | nil => exact ⟨rfl, trivial⟩
  | cons b bits ih =>
    simp only [List.length_cons] at hl hp
    have taken := Reader.take_plain (r := r) (fun hn => by have := hp hn; omega) b (r.run.next b)
    rw [Reader.takeAll, Reader.Expects, taken]
    obtain ⟨h, he⟩ := ih (r := { r with fields := b :: r.fields, left := r.left - 1, run := r.run.next b })
      (by dsimp only; omega) (fun hn => by have := hp hn; dsimp only; omega)
    rw [h]
    refine ⟨?_, by omega, he⟩
    simp [Run.after, Nat.sub_sub, Nat.add_comm]

theorem Reader.takeAll_append (r : Reader) (l₁ l₂ : Levels) : r.takeAll (l₁ ++ l₂) = (r.takeAll l₁).takeAll l₂ := by
  induction l₁ generalizing r with
  | nil => rfl
  | cons b l₁ ih => exact ih _

theorem Reader.expects_append (r : Reader) (l₁ l₂ : Levels) :
    r.Expects (l₁ ++ l₂) ↔ r.Expects l₁ ∧ (r.takeAll l₁).Expects l₂ := by
  induction l₁ generalizing r with
  | nil => exact ⟨fun h => ⟨trivial, h⟩, And.right⟩
  | cons b l₁ ih => simp only [List.cons_append, Reader.Expects, ih, Reader.takeAll, and_assoc]

/-- The receiver of a frame whose fields it has read, the last of them the body's. -/
def Reader.read (fields : Levels) (n left : Nat) : Reader :=
  { fields := fields.reverse, left := left, placed := some n, run := Run.start.after fields, tail := [], recessive := 0 }

/-- The field bit that ends the length field. -/
theorem Reader.take_length {r : Reader} (hl : r.left = 1) (hp : r.placed = none) {n : Nat} (b : Bool) (run : Run)
    (hn : numberOf ((b :: r.fields).take 10).reverse = n) :
    r.take b run = { r with fields := b :: r.fields, left := 8 * n + 16, placed := some n, run := run } := by
  subst hn
  unfold Reader.take
  dsimp only
  rw [if_pos hl, hp]

/-- The first 20 field bits end with the length field, which places the end (R144). -/
theorem Reader.takeAll_head {head : Levels} (hh : head.length = 10) {n : Nat} (hn : n < 1024) :
    Reader.start.takeAll (head ++ bitsOf 10 n) = Reader.read (head ++ bitsOf 10 n) n (8 * n + 16) ∧
      Reader.start.Expects (head ++ bitsOf 10 n) := by
  have last : bitsOf 10 n = bitsOf 9 (n / 2) ++ [n.testBit 0] := bitsOf_succ 9 n
  obtain ⟨taken, expects⟩ := Reader.takeAll_plain (r := Reader.start) (bits := head ++ bitsOf 9 (n / 2))
    (by simp [hh, Reader.start]) (fun _ => by simp [hh, Reader.start])
  have length : numberOf ((n.testBit 0 :: ((head ++ bitsOf 9 (n / 2)).reverse ++ [])).take 10).reverse = n := by
    rw [List.append_nil, ← List.reverse_concat', List.append_assoc, ← last, List.take_reverse, List.reverse_reverse,
      List.drop_left' (by simp [hh]), numberOf_bitsOf hn]
  rw [last, ← List.append_assoc, Reader.takeAll_append, Reader.expects_append, taken]
  refine ⟨?_, expects, by simp [Reader.Expects, Reader.start, hh]⟩
  rw [Reader.takeAll, Reader.takeAll, Reader.take_length (by simp [Reader.start, hh]) rfl _ _ length]
  simp [Reader.start, Reader.read, Run.after]

/-- A whole run of fields: the end is placed after its last bit. -/
theorem Reader.takeAll_frame {head body : Levels} (hh : head.length = 10) {n : Nat} (hn : n < 1024)
    (hb : body.length = 8 * n + 16) :
    Reader.start.takeAll (head ++ bitsOf 10 n ++ body) = Reader.read (head ++ bitsOf 10 n ++ body) n 0 ∧
      Reader.start.Expects (head ++ bitsOf 10 n ++ body) := by
  obtain ⟨taken, expects⟩ := Reader.takeAll_head hh hn
  obtain ⟨takenBody, expectsBody⟩ := Reader.takeAll_plain (r := Reader.read (head ++ bitsOf 10 n) n (8 * n + 16)) (bits := body)
    hb.le (fun h => nomatch h)
  rw [Reader.takeAll_append, Reader.expects_append, taken, takenBody]
  exact ⟨by simp [Reader.read, hb, Run.after], expects, expectsBody⟩

/-- The field bits the CRC covers, whatever the kind and the payload (R143). -/
def coveredFields (kind : BitVec 4) (payload : List Byte) : Levels :=
  bitsOf 4 kind.toNat ++ bitsOf 10 payload.length ++ bytesBits payload

/-- All field bits, whatever the fields are (R141). -/
def frameFields (keyClass : BitVec 2) (x : Station) (kind : BitVec 4) (payload : List Byte) (crc : Half) : Levels :=
  bitsOf 2 keyClass.toNat ++ bitsOf 4 x.val ++ coveredFields kind payload ++ bitsOf 16 crc.toNat

theorem fieldBits_eq (x : Station) (f : Frame) :
    fieldBits x f = frameFields (kindClass f.kind) x (kindCode f.kind) (payloadOf f)
      (crc16 (coveredFields (kindCode f.kind) (payloadOf f))) := rfl

/-- The receiver at the last CRC bit, and after the levels `tail` that follow it. -/
def Reader.atEnd (fields : Levels) (n : Nat) (tail : Levels) : Reader := { Reader.read fields n 0 with tail := tail }

theorem Reader.atEnd_nil (fields : Levels) (n : Nat) : Reader.atEnd fields n [] = Reader.read fields n 0 := rfl

theorem Reader.start_run : Reader.start.run = Run.start := rfl

@[simp] theorem Reader.atEnd_tail (fields : Levels) (n : Nat) (tail : Levels) : (Reader.atEnd fields n tail).tail = tail := rfl

theorem Reader.hear_atEnd (fields : Levels) (n : Nat) (tail : Levels) (k : Nat) (b : Bool) :
    ((Reader.atEnd fields n tail).counting k).hear b =
      (Reader.atEnd fields n (tail ++ [b])).counting (if b then k + 1 else 0) := rfl

theorem Reader.hearAll_atEnd (fields : Levels) (n : Nat) (tail line : Levels) (k : Nat) :
    ∃ m, ((Reader.atEnd fields n tail).counting k).hearAll line = (Reader.atEnd fields n (tail ++ line)).counting m := by
  induction line generalizing tail k with
  | nil => exact ⟨k, by rw [List.append_nil]; rfl⟩
  | cons b line ih =>
    obtain ⟨m, hm⟩ := ih (tail ++ [b]) (if b then k + 1 else 0)
    exact ⟨m, by rw [Reader.hearAll_cons, Reader.hear_atEnd, hm, List.append_assoc]; rfl⟩

/-- A receiver reads all the fields of a frame, and then the levels after them; up to the last field bit it stays calm. -/
theorem Reader.hearAll_frame (keyClass : BitVec 2) (x : Station) (kind : BitVec 4) {payload : List Byte} (crc : Half)
    (hp : payload.length < 1024) (tail : Levels) :
    (∃ n, Reader.start.hearAll (stuff Run.start (frameFields keyClass x kind payload crc) ++ tail) =
      (Reader.atEnd (frameFields keyClass x kind payload crc) payload.length tail).counting n) ∧
      Reader.start.Calm (stuff Run.start (frameFields keyClass x kind payload crc)) := by
  have split : frameFields keyClass x kind payload crc =
      (bitsOf 2 keyClass.toNat ++ bitsOf 4 x.val ++ bitsOf 4 kind.toNat) ++ bitsOf 10 payload.length ++
        (bytesBits payload ++ bitsOf 16 crc.toNat) := by
    simp [frameFields, coveredFields]
  obtain ⟨taken, expects⟩ := Reader.takeAll_frame (head := bitsOf 2 keyClass.toNat ++ bitsOf 4 x.val ++ bitsOf 4 kind.toNat)
    (body := bytesBits payload ++ bitsOf 16 crc.toNat) (by simp) hp (by simp)
  rw [← split] at taken expects
  have sound : Reader.start.Sound := ⟨Run.start_sound, rfl, Nat.zero_le _⟩
  obtain ⟨⟨n, hear⟩, calm⟩ := Reader.hearAll_stuff sound expects
  obtain ⟨m, htail⟩ := Reader.hearAll_atEnd (frameFields keyClass x kind payload crc) payload.length [] tail n
  rw [Reader.start_run] at hear calm
  rw [taken, ← Reader.atEnd_nil] at hear
  exact ⟨⟨m, by rw [Reader.hearAll_append, hear, htail, List.nil_append]⟩, calm⟩

/-- What a receiver reads where the fields and the three delimiter bits are these, and `slot` is what it has read of the slot. -/
def frameReading (keyClass : BitVec 2) (x : Station) (kind : BitVec 4) (payload : List Byte) (crc : Half) (delimiter : Bool)
    (slot : Levels) : Reading where
  keyClass  := keyClass
  sender    := x
  kind      := kind
  payload   := payload
  crcGood   := decide (crc = crc16 (coveredFields kind payload))
  broken    := false
  delimiter := delimiter
  rejected  := !slot.all id

/-- Every field is read at its place (R141). -/
theorem Reader.reading_atEnd (keyClass : BitVec 2) (x : Station) (kind : BitVec 4) (payload : List Byte) (crc : Half)
    (d1 d2 d3 : Bool) (slot : Levels) (n : Nat) :
    ((Reader.atEnd (frameFields keyClass x kind payload crc) payload.length (d1 :: d2 :: d3 :: slot)).counting n).reading =
      some (frameReading keyClass x kind payload crc (d1 && d2 && d3) slot) := by
  have h2 : (bitsOf 2 keyClass.toNat).length = 2 := bitsOf_length _ _
  have h6 : (bitsOf 2 keyClass.toNat ++ bitsOf 4 x.val).length = 6 := by simp
  have h20 : (bitsOf 2 keyClass.toNat ++ bitsOf 4 x.val ++ bitsOf 4 kind.toNat ++ bitsOf 10 payload.length).length = 20 := by simp
  have hcovered : (coveredFields kind payload).length = 14 + 8 * payload.length := by simp [coveredFields]; omega
  have intact : (Run.start.after (frameFields keyClass x kind payload crc)).broken = false :=
    (Run.after_sound Run.start_sound _).intact
  have kindAt : (frameFields keyClass x kind payload crc).drop 6 = coveredFields kind payload ++ bitsOf 16 crc.toNat := by
    rw [frameFields, List.append_assoc, List.drop_left' h6]
  have bodyAt : (frameFields keyClass x kind payload crc).drop 20 = bytesBits payload ++ bitsOf 16 crc.toNat := by
    simp only [frameFields, coveredFields, ← List.append_assoc]
    rw [List.append_assoc, List.drop_left' h20]
  simp only [Reader.reading, Reader.counting, Reader.atEnd, Reader.read, List.reverse_reverse, kindAt, bodyAt, intact,
    frameReading, bytesOf_bytesBits]
  rw [List.take_left' hcovered, List.drop_left' (bytesBits_length payload), numberOf_bitsOf_bitVec]
  have keyAt : (frameFields keyClass x kind payload crc).take 2 = bitsOf 2 keyClass.toNat := by
    simp only [frameFields, List.append_assoc]; rw [List.take_left' h2]
  have senderAt : ((frameFields keyClass x kind payload crc).drop 2).take 4 = bitsOf 4 x.val := by
    simp only [frameFields, List.append_assoc]; rw [List.drop_left' h2, List.take_left' (bitsOf_length _ _)]
  have kindBits : (coveredFields kind payload ++ bitsOf 16 crc.toNat).take 4 = bitsOf 4 kind.toNat := by
    simp only [coveredFields, List.append_assoc]; rw [List.take_left' (bitsOf_length _ _)]
  rw [keyAt, senderAt, kindBits, numberOf_bitsOf_bitVec, numberOf_bitsOf_bitVec, numberOf_bitsOf x.isLt]
  simp [BitVec.toNat_inj, eq_comm]

/-! #### A whole line read (R28, R29) -/

theorem readerOf_frame (keyClass : BitVec 2) (x : Station) (kind : BitVec 4) {payload : List Byte} (crc : Half)
    (hp : payload.length < 1024) (d1 d2 d3 s1 s2 : Bool) :
    ∃ n, readerOf (false :: stuff Run.start (frameFields keyClass x kind payload crc) ++ [d1, d2, d3, s1, s2]) =
      some ((Reader.atEnd (frameFields keyClass x kind payload crc) payload.length [d1, d2, d3, s1, s2]).counting n) := by
  obtain ⟨⟨n, hear⟩, -⟩ := Reader.hearAll_frame keyClass x kind crc hp [d1, d2, d3, s1, s2]
  refine ⟨n, ?_⟩
  rw [List.cons_append, readerOf, hear]
  exact if_pos rfl

/-- A frame is read intact where nothing is wrong with it (R28). -/
theorem Reading.sort_eq_intact {rd : Reading} {f : Frame} :
    rd.sort = .intact f ↔
      rd.broken = false ∧ rd.delimiter = true ∧ frameOf rd.kind rd.payload = some f ∧ rd.keyClass = kindClass f.kind ∧
        rd.crcGood = true := by
  unfold Reading.sort
  split
  · next hb =>
    have hb : rd.broken = true ∨ rd.delimiter = false := by simpa using hb
    refine ⟨fun h => (nomatch h), fun ⟨intact, delimiter, _⟩ => ?_⟩
    rcases hb with hb | hb
    · exact absurd (intact.symm.trans hb) (by decide)
    · exact absurd (delimiter.symm.trans hb) (by decide)
  · next hb =>
    have hb : rd.broken = false ∧ rd.delimiter = true := by simpa using hb
    split
    · next hf => simp [hf]
    · next g hf =>
      split
      · next hk => simp [hf]; rintro - - rfl hk'; exact absurd hk' hk
      · next hk =>
        split
        · next hc => simp [hf, hb, hc]; rintro rfl; simpa using hk
        · next hc => simp [hc]

theorem Reader.intact_eq {r : Reader} {rd : Reading} (h : r.reading = some rd) {f : Frame} (hs : rd.sort = .intact f) :
    r.intact = some (rd.sender, f, rd.rejected) := by
  rw [Reader.intact, h]
  simp only [hs]

theorem Reader.bad_of_reading {r : Reader} {rd : Reading} (h : r.reading = some rd) (hs : ∀ f, rd.sort ≠ .intact f) :
    r.bad = true := by
  rw [Reader.bad, Reader.intact, h]
  dsimp only
  split
  · next f hf => exact absurd hf (hs f)
  · rfl

/-- The line of a frame as any fields make it. -/
theorem readLine_frame (keyClass : BitVec 2) (x : Station) (kind : BitVec 4) {payload : List Byte} (crc : Half)
    (hp : payload.length < 1024) (d1 d2 d3 s1 s2 : Bool) :
    readLine (false :: stuff Run.start (frameFields keyClass x kind payload crc) ++ [d1, d2, d3, s1, s2]) =
      some (frameReading keyClass x kind payload crc (d1 && d2 && d3) [s1, s2]) := by
  obtain ⟨n, hr⟩ := readerOf_frame keyClass x kind crc hp d1 d2 d3 s1 s2
  rw [readLine, hr]
  exact Reader.reading_atEnd keyClass x kind payload crc d1 d2 d3 [s1, s2] n

/-- A wrong class, CRC or delimiter, or a payload that spells no frame, makes the line bad. -/
theorem badLine_frame (keyClass : BitVec 2) (x : Station) (kind : BitVec 4) {payload : List Byte} (crc : Half)
    (hp : payload.length < 1024) (d1 d2 d3 s1 s2 : Bool)
    (h : ∀ f, ¬ (crc = crc16 (coveredFields kind payload) ∧ (d1 && d2 && d3) = true ∧ frameOf kind payload = some f ∧
      keyClass = kindClass f.kind)) :
    badLine (false :: stuff Run.start (frameFields keyClass x kind payload crc) ++ [d1, d2, d3, s1, s2]) = true := by
  obtain ⟨n, hr⟩ := readerOf_frame keyClass x kind crc hp d1 d2 d3 s1 s2
  rw [badLine, hr]
  refine Reader.bad_of_reading (Reader.reading_atEnd keyClass x kind payload crc d1 d2 d3 [s1, s2] n) fun f hf => ?_
  obtain ⟨-, delimiter, frame, cls, crcGood⟩ := Reading.sort_eq_intact.mp hf
  exact h f ⟨of_decide_eq_true crcGood, delimiter, frame, cls⟩

/-! ### A payload spells its frame (R158 to R162) -/

theorem wordOf_wordBytes (v : Word) :
    wordOf (v.extractLsb' 24 8) (v.extractLsb' 16 8) (v.extractLsb' 8 8) (v.extractLsb' 0 8) = v := by
  rw [wordOf, BitVec.extractLsb'_append_extractLsb'_eq_extractLsb' (start₂ := 24) (start₁ := 16) rfl,
    BitVec.extractLsb'_append_extractLsb'_eq_extractLsb' (start₂ := 16) (start₁ := 8) rfl,
    BitVec.extractLsb'_append_extractLsb'_eq_extractLsb' (start₂ := 8) (start₁ := 0) rfl]
  exact BitVec.extractLsb'_eq_self

theorem halfOf_halfBytes (v : Half) : halfOf (v.extractLsb' 8 8) (v.extractLsb' 0 8) = v := by
  rw [halfOf, BitVec.extractLsb'_append_extractLsb'_eq_extractLsb' (start₂ := 8) (start₁ := 0) rfl]
  exact BitVec.extractLsb'_eq_self

theorem valueOf_valueBytes (v : Value) : valueOf (valueBytes v) = some v := by
  simp [valueBytes, wordBytes, valueOf, wordOf_wordBytes]

theorem valueBytes_length (v : Value) : (valueBytes v).length = 16 := rfl

theorem nibbleField_byteOf (x : Fin 16) : nibbleField (byteOf x.val) = some x := by
  have h : (byteOf x.val).toNat = x.val := by simp [byteOf]; omega
  rw [nibbleField, dif_pos (by omega)]
  simp [h]

theorem stationOrNoneField_stationByte (x : Option Station) : stationOrNoneField (stationByte x) = some x := by
  cases x with
  | none => rfl
  | some x =>
    have h : byteOf x.val ≠ 0xFF := by
      intro h
      have := congrArg BitVec.toNat h
      simp [byteOf] at this
      omega
    rw [stationOrNoneField, stationByte, if_neg h, nibbleField_byteOf]
    rfl

theorem indexOf_byteOf (i : Index) : indexOf (byteOf i.val) = i := by
  ext; simp [indexOf, byteOf]

theorem opOf_opBytes (op : Op) : opOf (opCode op) (opBytes op) = some op := by
  cases op with
  | write v => simp [opOf, opCode, opBytes, valueOf_valueBytes]
  | cswap e v => simp [opOf, opCode, opBytes, halfBytes, valueOf_valueBytes, halfOf_halfBytes]
  | claim => rfl
  | release => rfl

theorem carriedOf_carriedBytes (c : Carried) : carriedOf (carriedBytes c) = some c := by
  simp [carriedBytes, halfBytes, wordBytes, carriedOf, nibbleField_byteOf, halfOf_halfBytes, wordOf_wordBytes]

theorem carriedBytes_length (c : Carried) : (carriedBytes c).length = 11 := rfl

theorem recBytes_length (r : Rec) : (recBytes r).length = 20 := rfl

theorem recOf_recBytes (r : Rec) : recOf (recBytes r) = some r := by
  have htake : (recBytes r).take 16 = valueBytes r.value := rfl
  have hdrop : (recBytes r).drop 16 = halfBytes r.version ++ [stationByte r.claimant, stationByte r.writer] := rfl
  rw [recOf, htake, hdrop, valueOf_valueBytes]
  simp [halfBytes, stationOrNoneField_stationByte, halfOf_halfBytes]

theorem recsOf_recBytes (rs : List Rec) : recsOf rs.length (rs.flatMap recBytes) = some rs := by
  induction rs with
  | nil => rfl
  | cons r rs ih =>
    rw [List.flatMap_cons, List.length_cons, recsOf, List.take_left' (recBytes_length r), List.drop_left' (recBytes_length r), ih,
      recOf_recBytes]

theorem segmentOf16_recBytes (rs : Vector Rec 16) : segmentOf16 (rs.toList.flatMap recBytes) = some rs := by
  have h := recsOf_recBytes rs.toList
  rw [Vector.length_toList] at h
  rw [segmentOf16, h]
  simp [Vector.toList]

/-- Each frame is spelled by its own payload (R157, R164). -/
theorem frameOf_payloadOf (f : Frame) : frameOf (kindCode f.kind) (payloadOf f) = some f := by
  cases f with
  | presence state interval c => simp [frameOf, Frame.kind, kindCode, payloadOf, carriedOf_carriedBytes]
  | update ticket op index => simp [frameOf, Frame.kind, kindCode, payloadOf, opOf_opBytes, indexOf_byteOf]
  | wipe g => simp [frameOf, Frame.kind, kindCode, payloadOf, halfBytes, halfOf_halfBytes]
  | evict x => simp [frameOf, Frame.kind, kindCode, payloadOf, nibbleField_byteOf]
  | syncRequest k => simp [frameOf, Frame.kind, kindCode, payloadOf, nibbleField_byteOf]
  | offer j k => simp [frameOf, Frame.kind, kindCode, payloadOf, nibbleField_byteOf]
  | snapshot j k c rs =>
    simp [frameOf, Frame.kind, kindCode, payloadOf, nibbleField_byteOf, List.take_left' (carriedBytes_length c),
      List.drop_left' (carriedBytes_length c), carriedOf_carriedBytes, segmentOf16_recBytes]

theorem flatMap_recBytes_length (rs : List Rec) : (rs.flatMap recBytes).length = 20 * rs.length := by
  induction rs with
  | nil => rfl
  | cons r rs ih => rw [List.flatMap_cons, List.length_append, recBytes_length, ih, List.length_cons]; omega

/-- The longest payload is a SNAPSHOT's (R162). -/
theorem payloadOf_length_lt (f : Frame) : (payloadOf f).length < 1024 := by
  cases f with
  | snapshot j k c rs =>
    simp only [payloadOf, List.length_cons, List.length_append, carriedBytes_length, flatMap_recBytes_length, Vector.length_toList]
    decide
  | update ticket op index => cases op <;> simp [payloadOf, opBytes, valueBytes_length, halfBytes]
  | presence state interval c => simp [payloadOf, carriedBytes_length]
  | wipe g => simp [payloadOf, halfBytes]
  | evict x => simp [payloadOf]
  | syncRequest k => simp [payloadOf]
  | offer j k => simp [payloadOf]

/-! ### The line of a frame (R28, R29, R141) -/

theorem lineOf_eq (x : Station) (f : Frame) (s1 s2 : Bool) :
    lineOf x f s1 s2 = false :: stuff Run.start (fieldBits x f) ++ [true, true, true, s1, s2] := by
  simp [lineOf, sentBits]

/-- The receiver of a frame as sent, after the levels `tail` that follow its last CRC bit. -/
def Reader.ofFrame (x : Station) (f : Frame) (tail : Levels) : Reader := Reader.atEnd (fieldBits x f) (payloadOf f).length tail

/-- A frame as sent is intact from its end delimiter on, its slot driven where a level of it was dominant. -/
theorem Reader.intact_ofFrame (x : Station) (f : Frame) (slot : Levels) (n : Nat) :
    ((Reader.ofFrame x f (true :: true :: true :: slot)).counting n).intact = some (x, f, !slot.all id) := by
  have read := Reader.reading_atEnd (kindClass f.kind) x (kindCode f.kind) (payloadOf f)
    (crc16 (coveredFields (kindCode f.kind) (payloadOf f))) true true true slot n
  rw [← fieldBits_eq] at read
  refine Reader.intact_eq read (Reading.sort_eq_intact.mpr ⟨rfl, rfl, frameOf_payloadOf f, rfl, ?_⟩)
  exact decide_eq_true rfl

theorem Reader.hearAll_ofFrame (x : Station) (f : Frame) (tail : Levels) :
    (∃ n, Reader.start.hearAll (stuff Run.start (fieldBits x f) ++ tail) = (Reader.ofFrame x f tail).counting n) ∧
      Reader.start.Calm (stuff Run.start (fieldBits x f)) := by
  rw [Reader.ofFrame, fieldBits_eq]
  exact Reader.hearAll_frame _ x _ _ (payloadOf_length_lt f) tail

theorem readerOf_lineOf (x : Station) (f : Frame) (s1 s2 : Bool) :
    ∃ r, readerOf (lineOf x f s1 s2) = some r ∧ r.intact = some (x, f, !(s1 && s2)) := by
  obtain ⟨⟨n, hear⟩, -⟩ := Reader.hearAll_ofFrame x f [true, true, true, s1, s2]
  refine ⟨_, ?_, (Reader.intact_ofFrame x f [s1, s2] n).trans (by simp)⟩
  rw [lineOf_eq, List.cons_append, readerOf, hear]
  exact if_pos rfl

/-- Each frame sent is read as committed, or as discarded where its slot was driven. -/
theorem lineOf_reads (x : Station) (f : Frame) (s1 s2 : Bool) :
    badLine (lineOf x f s1 s2) = false ∧
    (s1 = true ∧ s2 = true → committedFrame (lineOf x f s1 s2) = some (x, f) ∧ discardedFrame (lineOf x f s1 s2) = none) ∧
    (s1 = false ∨ s2 = false → discardedFrame (lineOf x f s1 s2) = some (x, f) ∧ committedFrame (lineOf x f s1 s2) = none) := by
  obtain ⟨r, read, intact⟩ := readerOf_lineOf x f s1 s2
  simp only [badLine, committedFrame, discardedFrame, read, Option.bind_some]
  refine ⟨by simp [Reader.bad, intact], ?_, ?_⟩
  · rintro ⟨rfl, rfl⟩
    simp [Reader.committed, Reader.discarded, intact]
  · intro driven
    have slot : (!(s1 && s2)) = true := by rcases driven with rfl | rfl <;> simp
    simp [Reader.committed, Reader.discarded, intact, slot]

/-! ### Following the line of a frame (R139, R141) -/

section
variable {e : Ear} {bus : BusInterface}

theorem BusInterface.follow_cons (hd : bus.due = none) (b : Bool) (line : Levels) :
    bus.follow e (b :: line) = (bus.hear e b).follow e line := by
  rw [BusInterface.follow, hd]

/-- The bus interface receiving a frame, nothing due. -/
def BusInterface.receives (bus : BusInterface) (r : Reader) (closes rejecting : Bool) : BusInterface :=
  { bus with current := .receiving r closes rejecting, due := none }

/-- Inside the fields of a frame a calm receiver is all that the levels change. -/
theorem BusInterface.follow_calm {r : Reader} {closes rejecting : Bool} {line : Levels} (calm : r.Calm line) :
    (bus.receives r closes rejecting).follow e line = some (bus.receives (r.hearAll line) closes rejecting) := by
  induction line generalizing r with
  | nil => rfl
  | cons b line ih =>
    obtain ⟨tail, run, calm⟩ := calm
    have heard : (bus.receives r closes rejecting).hear e b = bus.receives (r.hear b) closes rejecting := by
      rw [BusInterface.hear_receiving rfl, BusInterface.hearFrame_eq, if_pos (by rw [tail]; rfl),
        if_neg (Nat.not_le_of_lt run)]
      rfl
    rw [BusInterface.follow_cons rfl, heard, Reader.hearAll_cons, ih calm]

/-- One level after the fields: the reject decision comes with the third, the close with the fifth. -/
theorem BusInterface.hear_atEnd (fields : Levels) (n : Nat) (tail : Levels) (k : Nat) (closes rejecting b : Bool) :
    (bus.receives ((Reader.atEnd fields n tail).counting k) closes rejecting).hear e b =
      if tail.length = 2 then
        bus.receives ((Reader.atEnd fields n (tail ++ [b])).counting (if b then k + 1 else 0)) closes
          (bus.rejects e ((Reader.atEnd fields n (tail ++ [b])).counting (if b then k + 1 else 0)) closes)
      else if tail.length = 4 then
        { bus with
          current := .receiving ((Reader.atEnd fields n (tail ++ [b])).counting (if b then k + 1 else 0)) closes rejecting
          due := some .close }
      else bus.receives ((Reader.atEnd fields n (tail ++ [b])).counting (if b then k + 1 else 0)) closes rejecting := by
  rw [BusInterface.hear_receiving rfl, BusInterface.hearFrame_eq, Reader.hear_atEnd]
  simp only [Reader.counting_tail, Reader.atEnd_tail, List.length_append, List.length_singleton, Nat.add_eq_zero_iff,
    one_ne_zero, and_false, if_false, Nat.reduceEqDiff]
  rfl

/-- A frame as sent, from the end of its fields to its close: it is not rejected, and its two slot bits are read. -/
theorem BusInterface.follow_tail (x : Station) (f : Frame) (closes s1 s2 : Bool) (k : Nat) :
    ∃ m, (bus.receives ((Reader.ofFrame x f []).counting k) closes false).follow e [true, true, true, s1, s2] =
      some { bus with
        current := .receiving ((Reader.ofFrame x f [true, true, true, s1, s2]).counting m) closes false, due := some .close } := by
  have kept (m : Nat) : bus.rejects e ((Reader.ofFrame x f [true, true, true]).counting m) closes = false := by
    simp [BusInterface.rejects, Reader.bad, Reader.intact_ofFrame x f []]
  unfold Reader.ofFrame at kept ⊢
  generalize fieldBits x f = fields at kept ⊢
  have delimiter1 := BusInterface.hear_atEnd (e := e) (bus := bus) fields (payloadOf f).length [] k closes false true
  have delimiter2 := BusInterface.hear_atEnd (e := e) (bus := bus) fields (payloadOf f).length [true] (k + 1) closes false true
  have delimiter3 := BusInterface.hear_atEnd (e := e) (bus := bus) fields (payloadOf f).length [true, true] (k + 2) closes false
    true
  have slot1 := BusInterface.hear_atEnd (e := e) (bus := bus) fields (payloadOf f).length [true, true, true] (k + 3) closes false s1
  have slot2 := BusInterface.hear_atEnd (e := e) (bus := bus) fields (payloadOf f).length [true, true, true, s1]
    (if s1 then k + 4 else 0) closes false s2
  simp only [List.length_nil, OfNat.zero_ne_ofNat, ↓reduceIte, List.nil_append, List.length_cons, zero_add,
    OfNat.one_ne_ofNat, List.cons_append, Nat.reduceAdd, kept, Nat.succ_ne_self,
    Nat.reduceEqDiff] at delimiter1 delimiter2 delimiter3 slot1 slot2
  exact ⟨_, by
    rw [BusInterface.follow_cons rfl, delimiter1, BusInterface.follow_cons rfl, delimiter2, BusInterface.follow_cons rfl,
      delimiter3, BusInterface.follow_cons rfl, slot1, BusInterface.follow_cons rfl, slot2, BusInterface.follow]⟩

/-- From an idle bus a receiver follows the line of a frame to its close. -/
theorem BusInterface.follow_lineOf (x : Station) (f : Frame) (s1 s2 : Bool) (hd : bus.due = none) (hc : bus.current = .idle)
    (hi : bus.inStep = true) (hr : 11 ≤ bus.recessiveRun) :
    ∃ m, bus.follow e (lineOf x f s1 s2) = some { bus with
      recessiveRun := 0, badTail := false, due := some .close
      current := .receiving ((Reader.ofFrame x f [true, true, true, s1, s2]).counting m) e.takesPart false } := by
  obtain ⟨⟨k, fields⟩, calm⟩ := Reader.hearAll_ofFrame x f []
  rw [List.append_nil] at fields
  have start : bus.hear e false =
      { bus with recessiveRun := 0, badTail := false }.receives Reader.start e.takesPart false := by
    simp [BusInterface.hear, hc, hi, BusInterface.hearIdle, Config.idleRun, hr, BusInterface.receives, hd]
  obtain ⟨m, tail⟩ := BusInterface.follow_tail (e := e) (bus := { bus with recessiveRun := 0, badTail := false }) x f e.takesPart
    s1 s2 k
  exact ⟨m, by
    rw [lineOf_eq, List.cons_append, BusInterface.follow_cons hd, start, BusInterface.follow_append, BusInterface.follow_calm calm,
      fields, Option.bind_some, tail]⟩

/-- A sender whose every bit reads back as sent goes on to its reject slot. -/
theorem BusInterface.follow_sent {o : OwnFrame} (hd : bus.due = none) (hc : bus.current = .own o) (hs : o.spoil = none)
    {line : Levels} (hl : (sentBits e.number o.frame).drop o.position = line) :
    ∃ run, bus.follow e line =
      some { bus with recessiveRun := run, current := .own { o with position := o.position + line.length } } := by
  induction line generalizing bus o with
  | nil => exact ⟨bus.recessiveRun, by rw [BusInterface.follow]; cases bus; cases hc; rfl⟩
  | cons b line ih =>
    have hp : o.position < (sentBits e.number o.frame).length := by
      have := congrArg List.length hl
      simp at this
      omega
    rw [List.drop_eq_getElem_cons hp] at hl
    obtain ⟨hb, hrest⟩ := List.cons.inj hl
    obtain ⟨run, h⟩ := ih (bus := { bus with recessiveRun := 0, current := .own { o with position := o.position + 1 } }) hd rfl hs
      hrest
    refine ⟨run, ?_⟩
    rw [BusInterface.follow_cons hd, BusInterface.hear_own hc, BusInterface.hearOwn_match hp hs hb.symm, h]
    simp [Nat.add_assoc, Nat.add_comm 1]

/-- The two slot levels bring the own frame to its close. -/
theorem BusInterface.follow_ownSlot {o : OwnFrame} (hd : bus.due = none) (hc : bus.current = .own o)
    (hp : o.position = (sentBits e.number o.frame).length) (s1 s2 : Bool) :
    bus.follow e [s1, s2] = some { bus with
      current := .own { o with position := o.position + 2, rejected := (o.rejected || !s1) || !s2 }, due := some .close } := by
  have first : bus.hear e s1 =
      { bus with current := .own { o with position := o.position + 1, rejected := o.rejected || !s1 }, due := none } := by
    rw [BusInterface.hear_own hc, BusInterface.hearOwn_slot hp.ge, BusInterface.hearOwnSlot, if_neg (Nat.not_lt_of_le hp.le)]
  rw [BusInterface.follow_cons hd, first, BusInterface.follow_cons rfl, BusInterface.hear_own rfl,
    BusInterface.hearOwn_slot (Nat.le_succ_of_le hp.ge), BusInterface.hearOwnSlot, BusInterface.follow,
    if_pos (Nat.lt_succ_of_le hp.ge)]

/-- A sender from its offer point on follows its own line to its close. -/
theorem BusInterface.follow_ownLine (f : Frame) (s1 s2 : Bool) (hd : bus.due = none)
    (hc : bus.current = .own { frame := f, position := 0, spoil := none, rejected := false }) :
    ∃ run position, bus.follow e (lineOf e.number f s1 s2) = some { bus with
      recessiveRun := run, due := some .close
      current := .own { frame := f, position := position, spoil := none, rejected := !(s1 && s2) } } := by
  obtain ⟨run, sent⟩ := BusInterface.follow_sent (e := e) hd hc rfl (line := sentBits e.number f) rfl
  refine ⟨run, 0 + (sentBits e.number f).length + 2, ?_⟩
  rw [lineOf, BusInterface.follow_append, sent, Option.bind_some,
    BusInterface.follow_ownSlot (by exact hd) rfl (Nat.zero_add _)]
  simp

end

/-! ### What is heard changes the bus interface only -/

theorem State.heard_bus {s u : State} {line : Levels} {event : LineEvent} (h : s.heard line = some (event, u)) :
    u = { s with bus := u.bus } ∧ u.bus.due = none ∧ u.bus.inStep = s.bus.inStep ∧ u.bus.slotDriven = s.bus.slotDriven ∧
      u.bus.spoilStreak = s.bus.spoilStreak ∧ u.bus.rejectStreak = s.bus.rejectStreak := by
  obtain ⟨bus, follow, -, rfl⟩ := State.heard_iff.mp h
  obtain ⟨inStep, spoil, reject, slot⟩ := BusInterface.follow_keeps follow
  exact ⟨rfl, rfl, inStep, slot, spoil, reject⟩

end Sys2Proof.Machine

namespace Sys2Proof

open Machine

set_option Elab.async false

/-! ### The statements -/

/-- Refutes O49: a spoil due inside the reject slot, which the roles and the ranges allow, counts the own frame one bit past its
slot with no close due. The state is one that no run reaches. -/
theorem not_everyStepKeepsRanges : ¬ Obligations.EveryStepKeepsRanges := by
  intro h
  have ranges := h spoilDueInSlot _ spoilDueInSlot_rolesOk spoilDueInSlot_headInFlightOk spoilDueInSlot_rangesOk rfl
  exact ranges.position_ne rfl nofun rfl

/-- Settles O11: the reply in each of the four cases. -/
theorem leaveActsByState : Obligations.LeaveActsByState := by
  intro s hr
  exact ⟨fun hs => exec_leave hr (leaveReply_idle hs), fun hs hl => exec_leave hr (leaveReply_busy hs hl),
    fun hs hl ho => exec_leave hr (leaveReply_leaves hs hl ho), fun hs hl ho => exec_leave hr (leaveReply_inFlight hs hl ho)⟩

/-- Settles O23: the commands of the two mismatches, each level read back, and what is driven meanwhile. -/
theorem readbackMismatchLosesOrSpoils : Obligations.ReadbackMismatchLosesOrSpoils := by
  refine ⟨fun s u line o ho => ?_, fun e bus o b hc hd => ?_, fun s o ho => ?_⟩
  · refine ⟨fun hu hl => ?_, fun hu hl => ?_, fun hu => ⟨0, Nat.zero_le 1, exec_spoiledFrame hu ho⟩⟩
    · rw [exec_lostArbitration hu ho, hl]; rfl
    · rw [exec_lostArbitration hu ho, hl]; rfl
  · rw [BusInterface.hear_own hc]
    refine ⟨fun h hs => ⟨BusInterface.hearOwn_match h hs, BusInterface.hearOwn_loses h hs, BusInterface.hearOwn_spoils h hs⟩,
      fun count h hs => BusInterface.hearOwn_spoiled h hs, fun h => ?_⟩
    · rw [BusInterface.hearOwn_slot h, BusInterface.hearOwnSlot]
      obtain he | hl := h.eq_or_lt
      · rw [if_neg (Nat.not_lt_of_le he.ge), if_pos he.symm]
      · rw [if_pos hl, if_neg hl.ne']
  · rw [State.mbtx_own ho]
    refine ⟨fun hs hd => ?_, fun hs hd => ?_, fun hs hd => ?_,
      fun count hs => ⟨OwnFrame.nextLevel_fill hs, fun h hp => ?_, fun h hp => ?_⟩⟩
    · simp only [OwnFrame.nextLevel, hs, hd]
    · simp only [OwnFrame.nextLevel, hs, hd]
    · simp only [OwnFrame.nextLevel, hs, hd]
    · rw [OwnFrame.nextLevel_tail hs h (by omega), decide_eq_true hp]
    · rw [OwnFrame.nextLevel_tail hs (by omega) hp, decide_eq_false (Nat.not_lt_of_le h)]

/-- Settles O26: the close by what the station did at the end delimiter, the decision there, and the slot it drives. -/
theorem badFrameIsRejectedOrGivenUp : Obligations.BadFrameIsRejectedOrGivenUp := by
  refine ⟨fun s u line r rejecting h hb => ?_, fun e bus r closes rejecting b hc ht => ?_, fun s r closes rejecting hc => ?_⟩
  · rw [exec_badFrameClose h hb]
    refine ⟨fun hr => ?_, fun hr hs hn => ?_, fun hr hn => ?_⟩ <;> subst hr
    · rw [State.badClose_rejecting]; rfl
    · rw [State.badClose_spent hs hn.ge]; rfl
    · rw [State.badClose_kept hn]; rfl
  · have ht : (r.hear b).tail.length ≠ 0 := mt List.length_eq_zero_iff.mp ht
    rw [BusInterface.hear_receiving hc, BusInterface.hearFrame_eq, if_neg ht]
    refine ⟨fun h3 => ?_, fun h5 => ?_, fun h3 h5 => ?_⟩
    · rw [if_pos h3]
      refine ⟨fun h => ?_, fun h => ?_⟩
      · rw [BusInterface.rejects_iff.mpr h]
      · have hn : bus.rejects e (r.hear b) closes = false := by
          rw [← Bool.not_eq_true, BusInterface.rejects_iff]
          rintro ⟨h1, h2, h3, h4⟩
          simp [h1, h2, h3, Nat.not_le_of_lt h4] at h
        rw [hn]
    · rw [if_neg (by omega), if_pos h5]
    · rw [if_neg h3, if_neg h5]
  · rw [State.mbtx_receiving hc]
    simp only [Bool.not_eq_false', Bool.and_eq_true, decide_eq_true_eq]
    exact and_congr_right fun _ => by omega

/-- Settles O27: a receiver lets the frame go, and five kinds of source do not act on an own DISCARDED close. -/
theorem discardedFrameIsAppliedByNoBlock : Obligations.DiscardedFrameIsAppliedByNoBlock := by
  intro s u line
  refine ⟨fun r rejecting => exec_discardedReceived, fun o h hl hd hup hsn => ?_⟩
  exact exec_discardedOwn_eq h hd (State.settleDiscarded_pending _ hup hsn) (by rwa [State.afterDiscarded_sync])

/-- Settles O34: the peer unit lets a PRESENCE under the own number be, and the sync controller weighs it. -/
theorem presenceUnderOwnNumberChangesNoEntry : Obligations.PresenceUnderOwnNumberChangesNoEntry := by
  intro s u line st iv c
  refine ⟨fun h => congrArg Host.Outcome.next (State.closeCommitted_eq h rfl fun _ => rfl), fun h => ?_⟩
  have closes {t : State} (ht : u.afterReceived.weighPresence u.afterReceived.number (reportedOf st) c = t) :
      exec (.presenceClose line) s = .next t :=
    exec_presenceReceived h ((actPresence_self (s := u.afterReceived)).trans ht)
  refine ⟨fun hs => closes ?_, fun hs h3 => closes ?_, fun hs h3 => closes ?_, fun hs h3 => closes ?_,
    fun sub next attempts hs => closes (State.weighPresence_syncing (s := u.afterReceived) hs)⟩
  · rw [State.weighPresence_synced (s := u.afterReceived) hs]
    simp only [reportedOf_eq_synced]
    rfl
  · rw [State.weighPresence_listen (s := u.afterReceived) hs, if_pos ((reportedOf_eq_synced st).mpr h3)]
    rfl
  · rw [State.weighPresence_stranded (s := u.afterReceived) hs, if_pos ((reportedOf_eq_synced st).mpr h3)]
  · have hr : reportedOf st ≠ some .synced := mt (reportedOf_eq_synced st).mp h3
    obtain hs | hs := hs
    · rw [State.weighPresence_listen (s := u.afterReceived) hs, if_neg hr]
    · rw [State.weighPresence_stranded (s := u.afterReceived) hs, if_neg hr]

/-- Settles O38: the donor record by the outcome of the own SNAPSHOT. -/
theorem donorSettlesItsSnapshot : Obligations.DonorSettlesItsSnapshot := by
  rintro s u line ⟨f, position, spoil, rejected⟩ j k c rs h rfl hl hs
  refine ⟨fun hsp hr => ?_, fun hd => ?_⟩
  · have takes := State.sendsFrame_takesClose h hsp hr hl
    refine ⟨fun hn => ?_, fun d hn => ⟨fun next hk => ?_, fun hk => ?_⟩⟩
    · exact exec_snapshotSent takes hs (State.settleSegment_none (s := u.afterSent _) hn) rfl
    · exact exec_snapshotSent takes hs (State.settleSegment_next (s := u.afterSent _) hn hk) rfl
    · exact exec_snapshotSent takes hs (State.settleSegment_last (s := u.afterSent _) hn hk) rfl
  · have sync : (u.afterDiscarded (.snapshot j k c rs) spoil.isSome).sync = u.sync := State.afterDiscarded_sync ..
    have port : (u.afterDiscarded (.snapshot j k c rs) spoil.isSome).port = u.port := State.afterDiscarded_port ..
    refine ⟨fun hn => ?_, fun d hn => ⟨fun ha => ?_, fun ha => ?_⟩⟩ <;> rw [← sync] at hn hl
    · exact exec_discardedOwn_eq h hd (State.failSegment_none hn) hl
    · rw [← port] at ha
      rw [exec_discardedOwn_eq h hd (State.failSegment_below hn ha) hl, sync]
    · rw [← port] at ha
      rw [exec_discardedOwn_eq h hd (State.failSegment_last hn ha) hl, sync]

/-- Settles O52: the moves of the mirror, and what the frame of a close can do to the position. -/
theorem positionChangesOnlyByItsRules : Obligations.PositionChangesOnlyByItsRules := by
  intro c s t h hne active
  rw [← State.mirror_position t] at hne ⊢
  have hstate : t.sync.state = t.mirror.state := rfl
  obtain hp | ⟨hp, hd⟩ | ⟨hm, hc⟩ | ⟨line, ⟨x, own, f⟩, hc, carried, hp⟩ := (exec_mirror h).position_cases
  · exact absurd hp hne
  · exact .inr (.inr (.inr (.inr (.inr ⟨hp, hd.command⟩))))
  · rw [hstate, hm]
    exact .inr (.inr (.inr (.inl ⟨hc, rfl, rfl⟩)))
  · generalize t.mirror.position = p at hp hne ⊢
    cases hp with
    | kept => exact absurd rfl hne
    | dropped kind => exact .inr (.inr (.inr (.inr (.inr ⟨rfl, (hc ▸ DropsPosition.close kind).command⟩))))
    | updated frame counts lineage =>
      obtain rfl := frame
      exact .inl ⟨line, own, x, _, _, _, hc, carried, counts, lineage, rfl⟩
    | evicted frame counts lineage =>
      obtain rfl := frame
      exact .inr (.inl ⟨line, own, x, _, hc, carried, counts, lineage, rfl⟩)
    | wiped frame counts =>
      obtain rfl := frame
      exact .inr (.inr (.inl ⟨line, own, x, _, hc, carried, counts, rfl⟩))
    | adopted received frame waits =>
      obtain rfl := frame
      obtain rfl := received
      exact .inr (.inr (.inr (.inr (.inl ⟨line, x, _, _, _, _, hc, carried, waits, rfl⟩))))

/-- Settles O57: the fold written out, and four bytes as one word before 32 shifts, each of which loses nothing. -/
theorem foldTellsOrderedFramesApart : Obligations.FoldTellsOrderedFramesApart := by
  refine ⟨fun digest b0 b1 b2 b3 => ?_, fun digest a b h => ?_⟩
  · have hshift : (fun r : Word => if r.getMsbD 0 then (r <<< 1) ^^^ 0x04C11DB7 else r <<< 1) = foldShift := by
      funext r
      rw [foldShift, BitVec.msb]
    simp only [hshift, ← placedByte_top]
    rfl
  · exact Vector.toList_inj.mp (foldDigest_injective a.length_toList b.length_toList h)

/-- Settles O48: off the line by what an act can do, on the line by what each level and the bus interface can do. -/
theorem everyStepKeepsRoles : Obligations.EveryStepKeepsRoles := by
  intro s t hs h
  rw [State.rolesOk_iff] at hs ⊢
  obtain ⟨hh, hl⟩ := hs
  unfold step at h
  split at h
  · cases h
    exact ⟨State.aside_tick.acts.holds hh, hl.aside State.aside_tick⟩
  · exact (exec_execMove h).roles (hh.congr rfl rfl rfl) (hl.congr rfl rfl rfl)

/-- Settles O44: the closes that count, clear or keep the streak one by one; every other move turns it with the station state. -/
theorem rejectStreakFollowsItsTable : Obligations.RejectStreakFollowsItsTable := by
  intro c s t hx
  have move := exec_execMove hx
  have badTrue : s.badFrameCloses c true → t.bus.rejectStreak = s.bus.rejectStreak + 1 ∧ t.sync.state = s.sync.state := by
    rintro ⟨line, r, u, hears, hb, rfl⟩
    cases hx.symm.trans (exec_badFrameClose hears hb)
    rw [State.badClose_rejecting, ← State.heard_rejectStreak hears.1]
    exact ⟨rfl, show u.sync.state = _ from State.heard_state hears.1⟩
  have reset : (∃ sn br low, c = .hardReset sn br low) → t.bus.rejectStreak = 0 := by
    rintro ⟨sn, br, low, rfl⟩
    obtain rfl := Host.Outcome.next.inj hx
    rfl
  refine ⟨fun h => (badTrue h).1, fun h => State.intactClose_rejectStreak h hx, fun f h => State.matchedOwnClose_rejectStreak h hx,
    fun f h hl => State.spoiledOwnClose_rejectStreak h hl hx, fun h hm => ?_, fun hm => ?_, fun h => ?_,
    fun bad intact matched hm hreset idle => ?_⟩
  · obtain ⟨line, r, u, hears, hb, rfl⟩ := h
    cases hx.symm.trans (exec_badFrameClose hears hb)
    exact (State.heard_turn hears.1 (State.badClose_turn u)).elim And.left fun h => absurd hm h.2
  · by_contra hn
    have kept := move.turn (fun h => hm (by rw [(badTrue h).2])) (fun h => hn (State.intactClose_rejectStreak h hx))
      (fun ⟨f, h⟩ => hn (State.matchedOwnClose_rejectStreak h hx)) fun h => hn (reset h)
    obtain (⟨_, h⟩ | ⟨h, _⟩) | ⟨_, _, h⟩ := kept
    · exact hm h
    · exact hn h
    · exact hn h
  · obtain h | ⟨rfl, hready, hs⟩ := h
    · exact reset h
    · obtain rfl := Host.Outcome.next.inj hx
      rw [State.takeCommand_ready hready]
      simp only [joinReply, hs, ne_eq, not_true_eq_false, if_false]
      rfl
  · obtain (⟨h, _⟩ | ⟨_, h⟩) | ⟨hs, ho, _⟩ := move.turn bad intact matched hreset
    · exact h
    · exact absurd hm h
    · simp [idle hs] at ho

/-- Settles O59: the receiver takes each field bit its sender stuffs and no inserted one (`Reader.hearAll_stuff`), reads each
field at its place, and stays calm, so that the bus interface follows the line to the close. -/
theorem lineReadsBackAsSent : Obligations.LineReadsBackAsSent := by
  unfold Obligations.LineReadsBackAsSent
  refine ⟨fun keyClass x kind payload crc d1 d2 d3 s1 s2 hp => ⟨?_, fun h => ?_⟩, lineOf_reads,
    fun s x f s1 s2 hd => ⟨fun hc hi hr => ?_, fun hc => ?_⟩, fun s u line event => State.heard_bus⟩
  · refine (readLine_frame keyClass x kind crc hp d1 d2 d3 s1 s2).trans ?_
    simp [frameReading, coveredFields]
  · refine badLine_frame keyClass x kind crc hp d1 d2 d3 s1 s2 ?_
    rintro f ⟨crcGood, delimiter, frame, cls⟩
    rw [Bool.and_eq_true, Bool.and_eq_true] at delimiter
    obtain ⟨⟨h1, h2⟩, h3⟩ := delimiter
    rcases h with h | h | h | h | h | ⟨g, hg, h⟩
    · exact h crcGood
    · simp [h1] at h
    · simp [h2] at h
    · simp [h3] at h
    · simp [frame] at h
    · cases frame.symm.trans hg
      exact h cls
  · obtain ⟨m, follow⟩ := BusInterface.follow_lineOf (e := s.ear) x f s1 s2 hd hc hi hr
    have intact := Reader.intact_ofFrame x f [s1, s2] m
    refine ⟨_, (Reader.ofFrame x f [true, true, true, s1, s2]).counting m, State.heard_iff.mpr ⟨_, follow, rfl, rfl⟩, rfl, ?_, ?_⟩
    · rintro ⟨rfl, rfl⟩
      exact (Reader.committed_iff _ x f).mpr intact
    · intro driven
      refine (Reader.discarded_iff _ x f).mpr (intact.trans ?_)
      rcases driven with rfl | rfl <;> simp
  · obtain ⟨run, position, follow⟩ := BusInterface.follow_ownLine (e := s.ear) f s1 s2 hd hc
    exact ⟨_, _, State.heard_iff.mpr ⟨_, follow, rfl, rfl⟩, rfl, rfl, rfl, rfl⟩

end Sys2Proof

/-! ## The update queue and completions: the host's changes, the credit, a HELD queue, and what only the host sets

The laws first, in the order of the model; the statements follow at the end. -/

namespace Sys2Proof.Machine

/-! ### The change commands (R50, R51) -/

/-- The command asks for the operation `op` on record `i`. -/
abbrev IsChange (c : Instr) (op : Op) (i : Index) : Prop :=
  (∃ v, c = .write i v ∧ op = .write v) ∨ (∃ e v, c = .cswap i e v ∧ op = .cswap e v) ∨
    (c = .claim i ∧ op = .claim) ∨ (c = .release i ∧ op = .release)

/-- The four change commands share one reply. -/
theorem IsChange.exec {c : Instr} {op : Op} {i : Index} (h : IsChange c op i) (s : State) :
    Machine.exec c s = .next (s.takeCommand 1 (changeReply op i)) := by
  obtain ⟨v, rfl, rfl⟩ | ⟨e, v, rfl, rfl⟩ | ⟨rfl, rfl⟩ | ⟨rfl, rfl⟩ := h <;> rfl

theorem IsChange.command {c : Instr} {op : Op} {i : Index} (h : IsChange c op i) :
    ∃ i, (∃ v, c = .write i v) ∨ (∃ e v, c = .cswap i e v) ∨ c = .claim i ∨ c = .release i := by
  obtain ⟨v, rfl, _⟩ | ⟨e, v, rfl, _⟩ | ⟨rfl, _⟩ | ⟨rfl, _⟩ := h <;> simp

section
variable {s : State} {op : Op} {i : Index}

theorem changeReply_state (h : s.sync.state ≠ .synced ∨ s.sync.leavePending = true) : changeReply op i s = ⟨.state, [0], s⟩ :=
  if_pos h

theorem changeReply_noCredit (hs : s.sync.state = .synced) (hl : s.sync.leavePending = false)
    (h : 16 ≤ s.update.outbound.length ∨ 32 ≤ s.update.outbound.length + s.update.completions.length) :
    changeReply op i s = ⟨.noCredit, [0], s⟩ := by
  rw [changeReply, if_neg (by simp [hs, hl])]
  split
  · rfl
  · next ho => exact if_pos (h.resolve_left ho)

theorem changeReply_accepted (hs : s.sync.state = .synced) (hl : s.sync.leavePending = false)
    (ho : s.update.outbound.length < 16) (hc : s.update.outbound.length + s.update.completions.length < 32) :
    changeReply op i s = ⟨.ok, [s.update.ticket], s.acceptChange op i⟩ := by
  rw [changeReply, if_neg (by simp [hs, hl]), if_neg (show ¬ Config.outboundLimit ≤ _ from Nat.not_le_of_lt ho),
    if_neg (show ¬ Config.creditLimit ≤ _ from Nat.not_le_of_lt hc)]

/-- A change is accepted within both limits, or the reply leaves the station as it stands. -/
theorem changeReply_cases (op : Op) (i : Index) (s : State) :
    (changeReply op i s).state = s ∨
      s.update.outbound.length < 16 ∧ s.update.outbound.length + s.update.completions.length < 32 ∧
        (changeReply op i s).state = s.acceptChange op i := by
  unfold changeReply
  split <;> [skip; split <;> [skip; split]]
  · exact .inl rfl
  · exact .inl rfl
  · exact .inl rfl
  · next ho hc => exact .inr ⟨Nat.lt_of_not_le ho, Nat.lt_of_not_le hc, rfl⟩

end

/-- A change command of a ready port is answered with its reply. -/
theorem IsChange.exec_ready {c : Instr} {op : Op} {i : Index} (h : IsChange c op i) {s : State} (hr : s.hostReady)
    {reply : Reply} (he : changeReply op i s = reply) :
    Machine.exec c s = .next (reply.state.replied (statusCode reply.status) reply.bytes) := by
  rw [h.exec, State.takeCommand_ready hr, he]

/-! ### RESUME and DISCARD_HEAD (R61, R62) -/

section
variable {s : State}

theorem resumeReply_free (h : s.update.held = false) : resumeReply s = ⟨.state, [], s⟩ :=
  if_neg (by simp [h])

theorem discardHeadReply_free (h : s.update.held = false) : discardHeadReply s = ⟨.state, [], s⟩ :=
  if_neg (by simp [h])

theorem resumeReply_held {e : Entry} {rest : List Entry} (h : s.update.held = true) (hq : s.update.outbound = e :: rest) :
    resumeReply s =
      ⟨.ok, [], { s with update := { s.update with outbound := { e with attempts := 0 } :: rest, held := false } }⟩ := by
  simp [resumeReply, h, State.resumeHead, hq]

theorem discardHeadReply_held {e : Entry} {rest : List Entry} (h : s.update.held = true) (hq : s.update.outbound = e :: rest) :
    discardHeadReply s =
      ⟨.ok, [],
        { s with
          update :=
            { s.update with
              outbound := rest, completions := s.update.completions ++ [e.ended .discarded], held := false } }⟩ := by
  simp [discardHeadReply, h, State.discardHead, hq]

/-- RESUME at a ready port is answered with its reply. -/
theorem exec_resume {reply : Reply} (hr : s.hostReady) (h : resumeReply s = reply) :
    exec .resume s = .next (reply.state.replied (statusCode reply.status) reply.bytes) :=
  congrArg Host.Outcome.next ((State.takeCommand_ready hr 0 resumeReply).trans (by rw [h]))

/-- DISCARD_HEAD at a ready port is answered with its reply. -/
theorem exec_discardHead {reply : Reply} (hr : s.hostReady) (h : discardHeadReply s = reply) :
    exec .discardHead s = .next (reply.state.replied (statusCode reply.status) reply.bytes) :=
  congrArg Host.Outcome.next ((State.takeCommand_ready hr 0 discardHeadReply).trans (by rw [h]))

end

/-! ### The host's side: its settings and its queues

Few commands set anything for the host, and few operations move an entry or a completion record. So the settings are followed with
the update engine by themselves, as a `HostSide`: most operations keep it, some only let entries and completion records go, and
`exec_hostMove` says once what a command can do to it. -/

/-- What only the host sets, and the update engine with its ticket counter (R48, R51, R182, R189, R200). -/
structure HostSide where
  watch            : Vector Bool 256
  stored           : Params
  inEffect         : Params
  eventEnable      : Bool
  completionEnable : Bool
  update           : UpdateEngine

/-- The host's side of the station. -/
def State.hostSide (s : State) : HostSide :=
  ⟨s.table.watch, s.port.stored, s.port.inEffect, s.port.eventEnable, s.port.completionEnable, s.update⟩

/-- Outbound entries and completion records together (R52). -/
def UpdateEngine.credit (q : UpdateEngine) : Nat := q.outbound.length + q.completions.length

/-- The settings and the ticket counter stand, no entry joins the outbound queue, and what an entry leaves is at most its completion
record. -/
structure HostSide.Drains (h h' : HostSide) : Prop where
  settings : h' = { h with update := { h'.update with ticket := h.update.ticket } }
  outbound : h'.update.outbound.length ≤ h.update.outbound.length
  credit   : h'.update.credit ≤ h.update.credit

theorem HostSide.Drains.refl (h : HostSide) : h.Drains h := ⟨rfl, Nat.le_refl _, Nat.le_refl _⟩

theorem HostSide.Drains.trans {h h' h'' : HostSide} (a : h.Drains h') (b : h'.Drains h'') : h.Drains h'' where
  settings := by
    have hb := b.settings
    rw [a.settings] at hb
    exact hb
  outbound := b.outbound.trans a.outbound
  credit   := b.credit.trans a.credit

theorem HostSide.Drains.of_eq {h h' : HostSide} (e : h' = h) : h.Drains h' := e ▸ .refl h

/-! #### Operations that keep the host's side -/

/-- Both branches of a choice leave the same host's side. -/
theorem State.hostSide_ite {p : Prop} [Decidable p] {a b : State} {h : HostSide} (ha : a.hostSide = h) (hb : b.hostSide = h) :
    (if p then a else b).hostSide = h := by
  split <;> assumption

section
variable (s : State)

@[simp] theorem State.post_hostSide (e : Event) : (s.post e).hostSide = s.hostSide := by simp [State.hostSide]

theorem State.postAll_hostSide (es : List Event) : (s.postAll es).hostSide = s.hostSide := by
  induction es generalizing s with
  | nil => rfl
  | cons e es ih => exact (ih (s.post e)).trans (s.post_hostSide e)

theorem State.noteChange_hostSide (i : Index) (x : Station) : (s.noteChange i x).hostSide = s.hostSide := by
  obtain h | ⟨_, _, _, h⟩ | ⟨_, _, _, h⟩ := s.noteChange_cases i x <;> rw [h] <;> rfl

@[simp] theorem State.hearEvidence_hostSide : s.hearEvidence.hostSide = s.hostSide := by
  unfold State.hearEvidence; split <;> rfl

@[simp] theorem State.countFrame_hostSide (bytes : List Byte) : (s.countFrame bytes).hostSide = s.hostSide := by
  unfold State.countFrame; split <;> [split; split; skip] <;> rfl

@[simp] theorem State.applyEvaluation_hostSide (cl : Closing) (i : Index) (out : Option (Result × Rec)) :
    (s.applyEvaluation cl i out).hostSide = s.hostSide := by
  unfold State.applyEvaluation
  split <;> [rfl; exact State.hostSide_ite (State.noteChange_hostSide _ _ _) rfl]

@[simp] theorem State.endServing_hostSide (why : EndReason) : (s.endServing why).hostSide = s.hostSide := by
  unfold State.endServing; split <;> [rfl; exact State.post_hostSide _ _]

theorem State.retry_hostSide (next : Segment) (attempts : Nat) : (s.retry next attempts).hostSide = s.hostSide :=
  State.hostSide_ite rfl (State.post_hostSide _ _)

theorem State.loseTransfers_hostSide (x : Station) : (s.loseTransfers x).hostSide = s.hostSide := by
  have joiner (t : State) :
      (match t.sync.state with
       | .syncing (.receiving d) next attempts =>
         if d = x then (t.post (.transferRestart .donorLost)).retry next attempts else t
       | _ => t).hostSide = t.hostSide := by
    split
    · exact State.hostSide_ite ((State.retry_hostSide _ _ _).trans (t.post_hostSide _)) rfl
    · rfl
  unfold State.loseTransfers
  refine (joiner _).trans ?_
  split
  · exact State.hostSide_ite (s.endServing_hostSide _) rfl
  · rfl

theorem State.evictPeer_hostSide (z x : Station) : (s.evictPeer z x).hostSide = s.hostSide :=
  State.hostSide_ite (s.post_hostSide _) ((State.loseTransfers_hostSide _ z).trans (State.post_hostSide _ _))

theorem State.found_hostSide : s.found.hostSide = s.hostSide := State.post_hostSide _ _

theorem actEvict_hostSide (cl : Closing) : (actEvict cl s).hostSide = s.hostSide := by
  unfold actEvict
  split
  · refine (State.evictPeer_hostSide _ _ _).trans ((State.countFrame_hostSide _ _).trans ?_)
    exact s.hearEvidence_hostSide
  · rfl

theorem State.hearPeer_hostSide (x : Station) (state interval : Byte) (c : Carried) :
    (s.hearPeer x state interval c).hostSide = s.hostSide :=
  State.hostSide_ite rfl (State.hostSide_ite (State.post_hostSide _ _) rfl)

theorem State.setRelation_hostSide (x : Station) (r : Relation) : (s.setRelation x r).hostSide = s.hostSide :=
  State.hostSide_ite rfl rfl

theorem State.hearLower_hostSide (x : Station) (r : Option Reported) : (s.hearLower x r).hostSide = s.hostSide :=
  State.hostSide_ite rfl rfl

theorem State.answerRequest_hostSide (j : Station) (k : Segment) : (s.answerRequest j k).hostSide = s.hostSide := by
  have offered (t : State) :
      (if t.port.inEffect.donorEnable ∧ t.sync.donor = none ∧ j ≠ t.number then
        { t with sync.offer := some (offerFor t.sync.offer j k) }
      else t).hostSide = t.hostSide := State.hostSide_ite rfl rfl
  refine State.hostSide_ite ((offered _).trans ?_) rfl
  split <;> [exact State.hostSide_ite (s.endServing_hostSide _) rfl; rfl]

theorem actSyncRequest_hostSide (cl : Closing) : (actSyncRequest cl s).hostSide = s.hostSide := by
  have sent : s.requestSent.hostSide = s.hostSide := by
    unfold State.requestSent
    split <;> [exact State.hostSide_ite rfl rfl; rfl]
  unfold actSyncRequest
  split <;> [exact State.hostSide_ite sent (s.answerRequest_hostSide _ _); rfl]

theorem State.withdrawOffer_hostSide (j : Station) : (s.withdrawOffer j).hostSide = s.hostSide := by
  unfold State.withdrawOffer
  split <;> [exact State.hostSide_ite rfl rfl; rfl]

theorem State.takeOffer_hostSide (x j : Station) (k : Segment) : (s.takeOffer x j k).hostSide = s.hostSide := by
  unfold State.takeOffer
  split <;> [exact State.hostSide_ite rfl rfl; rfl]

theorem actOffer_hostSide (cl : Closing) : (actOffer cl s).hostSide = s.hostSide := by
  unfold actOffer
  split
  · refine State.hostSide_ite ?_ ?_
    · exact (State.hostSide_ite rfl rfl : (s.hearEvidence.beginServing _ _).hostSide = _).trans s.hearEvidence_hostSide
    · exact (State.takeOffer_hostSide _ _ _ _).trans ((State.withdrawOffer_hostSide _ _).trans s.hearEvidence_hostSide)
  · rfl

theorem State.settleSegment_hostSide : s.settleSegment.hostSide = s.hostSide := by
  unfold State.settleSegment
  split <;> [rfl; (split <;> [rfl; exact s.endServing_hostSide _])]

theorem State.failSegment_hostSide : s.failSegment.hostSide = s.hostSide := by
  unfold State.failSegment
  split <;> [rfl; exact State.hostSide_ite rfl (s.endServing_hostSide _)]

theorem State.acceptSegment_hostSide (d : Station) (k : Segment) (rs : Vector Rec 16) (attempts : Nat) :
    (s.acceptSegment d k rs attempts).hostSide = s.hostSide := by
  unfold State.acceptSegment
  dsimp only
  split <;> [rfl; exact State.hostSide_ite (State.post_hostSide _ _) rfl]

theorem State.restartTransfer_hostSide (attempts : Nat) : (s.restartTransfer attempts).hostSide = s.hostSide :=
  (State.retry_hostSide _ _ _).trans (State.post_hostSide _ _)

theorem State.receiveSegment_hostSide (x j : Station) (k : Segment) (c : Carried) (rs : Vector Rec 16) :
    (s.receiveSegment x j k c rs).hostSide = s.hostSide := by
  unfold State.receiveSegment
  split
  · refine State.hostSide_ite (State.hostSide_ite ?_ (State.hostSide_ite ?_ ?_)) rfl
    · exact State.acceptSegment_hostSide _ _ _ _ _
    · exact State.acceptSegment_hostSide _ _ _ _ _
    · exact s.restartTransfer_hostSide _
  · rfl

theorem actSnapshot_hostSide (cl : Closing) : (actSnapshot cl s).hostSide = s.hostSide := by
  unfold actSnapshot
  split
  · exact State.hostSide_ite ((State.settleSegment_hostSide _).trans s.hearEvidence_hostSide)
      ((State.receiveSegment_hostSide _ _ _ _ _ _).trans s.hearEvidence_hostSide)
  · rfl

theorem State.raiseSpoil_hostSide : s.raiseSpoil.hostSide = s.hostSide :=
  State.hostSide_ite (State.hostSide_ite (State.post_hostSide _ _) rfl) rfl

theorem State.offer_hostSide : s.offer.hostSide = s.hostSide := by
  have drives (f : Frame) : (s.drive f).hostSide = s.hostSide := by cases f <;> rfl
  refine State.hostSide_ite rfl (State.hostSide_ite rfl ?_)
  split <;> [exact drives _; rfl]

theorem State.regain_hostSide (how : StepGain) : (s.regain how).hostSide = s.hostSide := by
  cases how <;> rfl

theorem State.expireWatch_hostSide (x : Station) : (s.expireWatch x).hostSide = s.hostSide := by
  have missed (misses : Nat) : (s.missPeer x misses).hostSide = s.hostSide :=
    State.hostSide_ite rfl ((State.loseTransfers_hostSide _ x).trans (State.post_hostSide _ _))
  unfold State.expireWatch
  split
  · rfl
  · exact State.loseTransfers_hostSide _ x
  · exact missed _
  · exact missed _

theorem State.endListenWindow_hostSide : s.endListenWindow.hostSide = s.hostSide := by
  unfold State.endListenWindow
  split
  · exact State.hostSide_ite (State.post_hostSide _ _) s.found_hostSide
  · exact State.hostSide_ite rfl s.found_hostSide
  · rfl

/-- The levels of the line leave the host's side. -/
theorem State.heard_hostSide {s u : State} {line : Levels} {event : LineEvent} (h : s.heard line = some (event, u)) :
    u.hostSide = s.hostSide := by
  rw [State.heard_keeps h]; rfl

/-! #### Operations that let entries and completion records go -/

theorem State.cancel_drains (r : Result) : s.hostSide.Drains (s.cancel r).hostSide where
  settings := rfl
  outbound := Nat.zero_le _
  credit   := by simp [State.hostSide, State.cancel, UpdateEngine.credit, Nat.add_comm]

/-- The head goes and leaves its completion record. -/
theorem State.ended_drains {s : State} {e : Entry} {rest : List Entry} (h : s.update.outbound = e :: rest) (c : Completion)
    (held : Bool) :
    s.hostSide.Drains
      { s.hostSide with
        update := { s.update with outbound := rest, completions := s.update.completions ++ [c], held := held } } where
  settings := rfl
  outbound := by simp [State.hostSide, h]
  credit   := by simp [State.hostSide, UpdateEngine.credit, h]; omega

/-- The head stays, whatever its attempts. -/
theorem State.kept_drains {s : State} {e e' : Entry} {rest : List Entry} (h : s.update.outbound = e :: rest) (held : Bool) :
    s.hostSide.Drains { s.hostSide with update := { s.update with outbound := e' :: rest, held := held } } where
  settings := rfl
  outbound := by simp [State.hostSide, h]
  credit   := by simp [State.hostSide, UpdateEngine.credit, h]

theorem State.settleHead_drains (r : Result) (v : Half) : s.hostSide.Drains (s.settleHead r v).hostSide := by
  cases h : s.update.outbound with
  | nil => rw [State.settleHead_nil h]; exact .refl _
  | cons e rest => rw [State.settleHead_cons h]; exact State.ended_drains h _ _

theorem State.failHead_drains : s.hostSide.Drains s.failHead.hostSide := by
  cases h : s.update.outbound with
  | nil => rw [State.failHead_nil h]; exact .refl _
  | cons e rest =>
    by_cases hn : e.attempts + 1 < s.port.inEffect.retryLimit
    · rw [State.failHead_below h hn]; exact State.kept_drains h _
    cases hp : s.port.inEffect.failPolicy with
    | drop => rw [State.failHead_drop h hn hp]; exact State.ended_drains h _ _
    | hold =>
      rw [State.failHead_hold h hn hp]
      exact (State.kept_drains h true).trans (.of_eq (State.post_hostSide
        { s with update := { s.update with outbound := { e with attempts := e.attempts + 1 } :: rest, held := true } } _))

theorem State.leaveSynced_drains (cause : Cause) : s.hostSide.Drains (s.leaveSynced cause).hostSide := by
  rw [State.leaveSynced_eq, State.outOfSynced, State.postAll_hostSide]
  exact s.cancel_drains .cancelledResync

theorem State.nowIdle_drains : s.hostSide.Drains s.nowIdle.hostSide := by
  rw [State.nowIdle, State.postAll_hostSide]
  exact s.cancel_drains .cancelledLeave

theorem actUpdate_drains (cl : Closing) : s.hostSide.Drains (actUpdate cl s).hostSide := by
  unfold actUpdate
  split
  · next ticket op i _ =>
    dsimp only
    generalize s.evaluation cl.sender op i = out
    generalize ht : (s.hearEvidence.applyEvaluation cl i out).countFrame (updateFoldBytes cl.sender ticket i) = t
    have counted : t.hostSide = s.hostSide := by simp [← ht]
    rw [← counted]
    unfold State.settleEvaluation
    split
    · exact .refl _
    · split <;> [exact t.settleHead_drains _ _; exact .refl _]
  · exact .refl _

theorem actWipe_drains (cl : Closing) : s.hostSide.Drains (actWipe cl s).hostSide := by
  have cancelled := s.cancel_drains .cancelledWipe
  unfold actWipe
  split
  · dsimp only
    split
    · exact cancelled.trans (.of_eq ((State.post_hostSide _ _).trans (State.endServing_hostSide _ _)))
    · exact cancelled.trans (.of_eq ((State.post_hostSide _ _).trans (State.post_hostSide _ _)))
    · exact cancelled.trans (.of_eq (State.hearEvidence_hostSide _))
  · exact .refl _

theorem State.weighPresence_drains (x : Station) (r : Option Reported) (c : Carried) :
    s.hostSide.Drains (s.weighPresence x r c).hostSide := by
  have related (r : Relation) : s.hostSide.Drains (s.setRelation x r).hostSide := .of_eq (s.setRelation_hostSide x r)
  unfold State.weighPresence
  split
  · split
    · unfold State.compareWith
      split <;> [exact s.leaveSynced_drains _; exact related _; exact related _]
    · exact related _
  · exact (related .unknown).trans
      (.of_eq (State.hostSide_ite (State.hearEvidence_hostSide _) (State.hearLower_hostSide _ _ _)))
  · exact (related .unknown).trans (.of_eq (State.hostSide_ite (State.post_hostSide _ _) (State.hearLower_hostSide _ _ _)))
  · exact related _

theorem actPresence_drains (cl : Closing) : s.hostSide.Drains (actPresence cl s).hostSide := by
  unfold actPresence
  split
  · split
    · exact .refl _
    · rw [← s.hearPeer_hostSide]
      exact State.weighPresence_drains _ _ _ _
  · exact .refl _

theorem State.settleDiscarded_drains (f : Frame) : s.hostSide.Drains (s.settleDiscarded f).hostSide := by
  cases f with
  | update => exact s.failHead_drains
  | snapshot => exact .of_eq s.failSegment_hostSide
  | _ => exact .refl _

theorem State.afterOwnClose_drains (own : Bool) : s.hostSide.Drains (s.afterOwnClose own).hostSide := by
  unfold State.afterOwnClose
  rw [State.goIdle_eq]
  split <;> [exact s.nowIdle_drains; exact .refl _]

theorem State.badClose_drains (rejecting : Bool) : s.hostSide.Drains (s.badClose rejecting).hostSide := by
  cases rejecting with
  | true => exact .refl _
  | false =>
    unfold State.badClose
    dsimp only
    rw [if_neg Bool.false_ne_true]
    split <;> [exact s.afterBad.leaveSynced_drains _; exact .refl _]

theorem State.losePlace_drains (how : PlaceLoss) : s.hostSide.Drains (s.losePlace how).hostSide := by
  rw [State.losePlace_eq]
  split <;> [exact (s.outOfStep how).leaveSynced_drains _; exact .refl _]

/-- The own or received DISCARDED close, before a deferred leave. -/
theorem State.discardedClose_drains (cl : Closing) (spoiled : Bool) :
    s.hostSide.Drains (if spoiled then s.spoiledClose cl.frame else s.rejectedClose cl).hostSide := by
  split
  · exact (State.settleDiscarded_drains (s.closeSpoiled cl.frame) cl.frame).trans (.of_eq (State.raiseSpoil_hostSide _))
  · unfold State.rejectedClose
    split <;> [exact State.settleDiscarded_drains (s.closeMatched cl) cl.frame; exact .refl _]

theorem resumeReply_drains : s.hostSide.Drains (resumeReply s).state.hostSide := by
  unfold resumeReply
  split
  · refine ⟨rfl, ?_, ?_⟩ <;> cases h : s.update.outbound <;>
      simp [State.hostSide, State.resumeHead, UpdateEngine.credit, h]
  · exact .refl _

theorem discardHeadReply_drains : s.hostSide.Drains (discardHeadReply s).state.hostSide := by
  unfold discardHeadReply
  split
  · refine ⟨rfl, ?_, ?_⟩ <;> cases h : s.update.outbound <;>
      simp [State.hostSide, State.discardHead, UpdateEngine.credit, h]; omega
  · exact .refl _

theorem takeCompletionReply_drains : s.hostSide.Drains (takeCompletionReply s).state.hostSide := by
  unfold takeCompletionReply
  split
  · exact .refl _
  · next h => exact ⟨rfl, Nat.le_refl _, by simp [State.hostSide, UpdateEngine.credit, h]⟩

end

/-! #### What a command can do to the host's side -/

/-- The moves of the host's side: a change accepted, a setting, a reset; every other command only lets entries and completion records
go. -/
inductive State.HostMove (s : State) : Instr → HostSide → Prop
  | drained {c : Instr} {h : HostSide} (drains : s.hostSide.Drains h) : s.HostMove c h
  | reset {sn : BitVec 4} {br : BitVec 2} {low : Bool} {h : HostSide} (update : h.update = UpdateEngine.reset) :
      s.HostMove (.hardReset sn br low) h
  | accepted {c : Instr} {op : Op} {i : Index} (change : IsChange c op i) (room : s.update.outbound.length < 16)
      (credit : s.update.credit < 32) : s.HostMove c (s.acceptChange op i).hostSide
  | watched {i : Index} : s.HostMove (.watch i) { s.hostSide with watch := put s.table.watch i true }
  | unwatched {i : Index} : s.HostMove (.unwatch i) { s.hostSide with watch := put s.table.watch i false }
  | configured {o : ConfigOperands} : s.HostMove (.configure o) { s.hostSide with stored := configParams o }
  | joined : s.HostMove .join { s.hostSide with inEffect := s.port.stored }
  | enabled {events completions : Byte} (e k : Bool) :
      s.HostMove (.setInterrupts events completions) { s.hostSide with eventEnable := e, completionEnable := k }

theorem State.HostMove.kept {s : State} {c : Instr} : s.HostMove c s.hostSide := .drained (.refl _)

theorem State.HostMove.of_eq {s : State} {c : Instr} {h : HostSide} (e : h = s.hostSide) : s.HostMove c h := e ▸ .kept

/-- What follows the levels of the line moves the host's side as they left it. -/
theorem State.HostMove.heard {s u : State} {c : Instr} {line : Levels} {event : LineEvent} {h : HostSide}
    (hu : s.heard line = some (event, u)) (drains : u.hostSide.Drains h) : s.HostMove c h :=
  .drained (State.heard_hostSide hu ▸ drains)

theorem State.HostMove.ite {s a b : State} {c : Instr} {p : Prop} [Decidable p] (ha : s.HostMove c a.hostSide)
    (hb : s.HostMove c b.hostSide) : s.HostMove c (if p then a else b).hostSide := by
  split <;> assumption

section
variable {s : State} {c : Instr}

/-- A host command moves the host's side only as its own action does. -/
theorem State.takeCommand_hostMove {act : State → Reply} (n : Nat) (h : s.HostMove c (act s).state.hostSide) :
    s.HostMove c (s.takeCommand n act).hostSide := by
  unfold State.takeCommand
  dsimp only
  refine .ite ?_ .kept
  split <;> [exact .kept; exact h]

theorem IsChange.hostMove {op : Op} {i : Index} (h : IsChange c op i) : s.HostMove c (changeReply op i s).state.hostSide := by
  obtain hs | ⟨room, credit, hs⟩ := changeReply_cases op i s <;> rw [hs]
  · exact .kept
  · exact .accepted h room credit

theorem configureReply_hostMove (o : ConfigOperands) : s.HostMove (.configure o) (configureReply o s).state.hostSide := by
  unfold configureReply
  split <;> [exact .kept; (split <;> [exact .kept; exact .configured])]

theorem joinReply_hostMove : s.HostMove .join (joinReply s).state.hostSide := by
  unfold joinReply
  split
  · exact .kept
  · exact (State.post_hostSide _ _ : s.joinSession.hostSide = _) ▸ .joined

theorem leaveReply_hostMove : s.HostMove .leave (leaveReply s).state.hostSide := by
  unfold leaveReply
  rw [State.goIdle_eq]
  split <;> [exact .kept; (split <;> [exact .kept; (split <;> [exact .kept; exact .drained s.nowIdle_drains])])]

theorem setInterruptsReply_hostMove (events completions : Byte) :
    s.HostMove (.setInterrupts events completions) (setInterruptsReply events completions s).state.hostSide := by
  unfold setInterruptsReply
  split <;> [exact .kept; (split <;> [exact .kept; exact .enabled _ _])]

theorem wipeReply_hostSide (s : State) : (wipeReply s).state.hostSide = s.hostSide := by
  unfold wipeReply; split <;> [rfl; (split <;> rfl)]

theorem takeEventReply_hostSide (s : State) : (takeEventReply s).state.hostSide = s.hostSide := by
  unfold takeEventReply State.dropEvent; split <;> [rfl; (dsimp only; split <;> rfl)]

theorem readPeerReply_hostSide (number : Byte) (s : State) : (readPeerReply number s).state.hostSide = s.hostSide := by
  unfold readPeerReply; split <;> rfl

/-- The close of a committed frame lets go what its acts and a deferred leave let go. -/
theorem State.closeCommitted_hostMove {act : Closing → State → State} (line : Levels) (k : Kind)
    (hact : ∀ (u : State) (cl : Closing), u.hostSide.Drains (act cl u).hostSide) :
    s.HostMove c (s.closeCommitted line k act).hostSide := by
  obtain h | ⟨cl, u, hcl, -, ⟨-, h⟩ | ⟨-, h⟩⟩ := s.closeCommitted_cases line k act <;> rw [h]
  · exact .kept
  · exact .heard (State.closing_heard hcl).1 (.refl _)
  · exact .heard (State.closing_heard hcl).1 ((hact (u.closeMatched cl) cl).trans (State.afterOwnClose_drains _ cl.own))

/-- Everything a command can do to the host's side. -/
theorem exec_hostMove {t : State} (h : exec c s = .next t) : s.HostMove c t.hostSide := by
  have change {op : Op} {i : Index} (hc : IsChange c op i) : s.HostMove c t.hostSide := by
    obtain rfl := Host.Outcome.next.inj ((hc.exec s).symm.trans h)
    exact State.takeCommand_hostMove 1 hc.hostMove
  cases c
  case write i v => exact change (.inl ⟨v, rfl, rfl⟩)
  case cswap i e v => exact change (.inr (.inl ⟨e, v, rfl, rfl⟩))
  case claim i => exact change (.inr (.inr (.inl ⟨rfl, rfl⟩)))
  case release i => exact change (.inr (.inr (.inr ⟨rfl, rfl⟩)))
  all_goals obtain rfl := Host.Outcome.next.inj h
  case hardReset => exact .reset rfl
  case startUpClearComplete => exact .ite .kept .kept
  case transactionStart => exact .ite .kept .kept
  case transactionTruncated => split <;> [exact .ite .kept .kept; exact .kept; exact .kept]
  case transactionEnd => split <;> exact .kept
  case status => exact .ite .kept .kept
  case configure => exact State.takeCommand_hostMove _ (configureReply_hostMove _)
  case join => exact State.takeCommand_hostMove _ joinReply_hostMove
  case leave => exact State.takeCommand_hostMove _ leaveReply_hostMove
  case readRecord => exact State.takeCommand_hostMove _ .kept
  case wipe => exact State.takeCommand_hostMove _ (.of_eq (wipeReply_hostSide s))
  case resume => exact State.takeCommand_hostMove _ (.drained (resumeReply_drains s))
  case discardHead => exact State.takeCommand_hostMove _ (.drained (discardHeadReply_drains s))
  case takeCompletion => exact State.takeCommand_hostMove _ (.drained (takeCompletionReply_drains s))
  case takeEvent => exact State.takeCommand_hostMove _ (.of_eq (takeEventReply_hostSide s))
  case readPeer => exact State.takeCommand_hostMove _ (.of_eq (readPeerReply_hostSide _ s))
  case watch => exact State.takeCommand_hostMove _ .watched
  case unwatch => exact State.takeCommand_hostMove _ .unwatched
  case setInterrupts => exact State.takeCommand_hostMove _ (setInterruptsReply_hostMove _ _)
  case badCommand => exact .ite .kept (State.takeCommand_hostMove _ .kept)
  case offerPoint =>
    split
    · next u hu => exact .heard hu (.of_eq u.offer_hostSide)
    · exact .kept
  case lostArbitration =>
    split
    · next u hu =>
      split
      · next o _ =>
        dsimp only
        rw [State.goIdle_eq]
        have left := State.nowIdle_drains { u with bus := u.bus.loseArbitration o u.number, selector.winStreak := 0 }
        exact .ite (.heard hu left) (.heard hu (.refl _))
      · exact .kept
    · exact .kept
  case spoiledFrame =>
    split
    · next u hu => split <;> [exact .heard hu (.refl _); exact .kept]
    · exact .kept
  case lostPlace =>
    split
    · next how u hu => exact .heard hu (u.losePlace_drains how)
    · exact .kept
  case regainStep =>
    split
    · next how u hu => exact .heard hu (.of_eq (u.regain_hostSide how))
    · exact .kept
  case badFrameClose =>
    split
    · next rejecting u hcl =>
      have hu := (State.closing_heard hcl).1
      exact .ite (.heard hu (u.badClose_drains rejecting)) (.heard hu (.refl _))
    · exact .kept
  case discardedClose =>
    split
    · next cl spoiled u hcl =>
      have hu := (State.closing_heard hcl).1
      refine .ite (.heard hu ?_) (.heard hu (.refl _))
      exact (u.discardedClose_drains cl spoiled).trans (State.afterOwnClose_drains _ _)
    · exact .kept
  case updateClose line => exact State.closeCommitted_hostMove line .update actUpdate_drains
  case evictClose line => exact State.closeCommitted_hostMove line .evict fun u cl => .of_eq (actEvict_hostSide u cl)
  case wipeClose line => exact State.closeCommitted_hostMove line .wipe actWipe_drains
  case presenceClose line => exact State.closeCommitted_hostMove line .presence actPresence_drains
  case syncRequestClose line =>
    exact State.closeCommitted_hostMove line .syncRequest fun u cl => .of_eq (actSyncRequest_hostSide u cl)
  case offerClose line => exact State.closeCommitted_hostMove line .offer fun u cl => .of_eq (actOffer_hostSide u cl)
  case snapshotClose line => exact State.closeCommitted_hostMove line .snapshot fun u cl => .of_eq (actSnapshot_hostSide u cl)
  case listenTimerExpiry => exact .ite (.of_eq s.endListenWindow_hostSide) .kept
  case presenceTimer => exact .ite .kept .kept
  case offerTimerExpiry =>
    refine .ite ?_ .kept
    split <;> [exact .of_eq (s.retry_hostSide _ _); exact .kept]
  case segmentTimerExpiry =>
    refine .ite ?_ .kept
    split <;> [exact .of_eq ((State.retry_hostSide _ _ _).trans (s.post_hostSide _)); exact .kept]
  case watchTimerExpiry x => exact .ite (.of_eq (s.expireWatch_hostSide x)) .kept

end

/-! #### The credit limits and the settings, by the moves -/

/-- The sum of entries and completion records, and the outbound queue, grow by one at an accepted change and at nothing else (R52). -/
theorem State.HostMove.credit_cases {s : State} {c : Instr} {h : HostSide} (m : s.HostMove c h) :
    h.update.outbound.length ≤ s.update.outbound.length ∧ h.update.credit ≤ s.update.credit ∨
      s.update.outbound.length < 16 ∧ s.update.credit < 32 ∧ (∃ op i, IsChange c op i) ∧
        h.update.outbound.length = s.update.outbound.length + 1 ∧ h.update.credit = s.update.credit + 1 := by
  cases m with
  | drained drains => exact .inl ⟨drains.outbound, drains.credit⟩
  | reset update => rw [update]; exact .inl ⟨Nat.zero_le _, Nat.zero_le _⟩
  | @accepted _ op i change room credit =>
    have joined : (s.acceptChange op i).update.outbound.length = s.update.outbound.length + 1 := List.length_append
    exact .inr ⟨room, credit, ⟨op, i, change⟩, joined, (congrArg (· + _) joined).trans (Nat.add_right_comm _ _ _)⟩
  | watched => exact .inl ⟨Nat.le_refl _, Nat.le_refl _⟩
  | unwatched => exact .inl ⟨Nat.le_refl _, Nat.le_refl _⟩
  | configured => exact .inl ⟨Nat.le_refl _, Nat.le_refl _⟩
  | joined => exact .inl ⟨Nat.le_refl _, Nat.le_refl _⟩
  | enabled => exact .inl ⟨Nat.le_refl _, Nat.le_refl _⟩

/-- Every setting has its own command, and the ticket counter rises by one at an accepted change (R51, R182, R189, R200). -/
theorem State.HostMove.settings {s : State} {c : Instr} {h : HostSide} (m : s.HostMove c h)
    (hreset : ∀ sn br low, c ≠ .hardReset sn br low) :
    (h.watch ≠ s.table.watch → ∃ i, c = .watch i ∨ c = .unwatch i) ∧
    (h.stored ≠ s.port.stored → ∃ o, c = .configure o) ∧
    (h.inEffect ≠ s.port.inEffect → c = .join ∧ h.inEffect = s.port.stored) ∧
    (h.eventEnable ≠ s.port.eventEnable ∨ h.completionEnable ≠ s.port.completionEnable → ∃ e k, c = .setInterrupts e k) ∧
    (h.update.ticket ≠ s.update.ticket →
      h.update.ticket = s.update.ticket + 1 ∧
        ∃ i, (∃ v, c = .write i v) ∨ (∃ e v, c = .cswap i e v) ∨ c = .claim i ∨ c = .release i) := by
  cases m with
  | drained drains => rw [drains.settings]; simp [State.hostSide]
  | reset => exact absurd rfl (hreset _ _ _)
  | accepted change => simpa [State.hostSide, State.acceptChange] using change.command
  | watched => simp [State.hostSide]
  | unwatched => simp [State.hostSide]
  | configured => simp [State.hostSide]
  | joined => simp [State.hostSide]
  | enabled => simp [State.hostSide]

/-- A step is a millisecond, which moves nothing of the host's side, or a command on the same host's side. -/
theorem step_hostMove {s t : State} (h : step s = .next t) :
    t.hostSide = s.hostSide ∨
      ∃ c rest, s.pending = c :: rest ∧ State.HostMove { s with pending := rest } c t.hostSide := by
  unfold step at h
  split at h
  · cases h; exact .inl rfl
  · next c rest hp => exact .inr ⟨c, rest, hp, exec_hostMove h⟩

end Sys2Proof.Machine

namespace Sys2Proof

open Machine

/-! ### The statements -/

/-- Settles O45: only an accepted change adds an entry, and it was accepted below both limits. -/
theorem everyStepKeepsCredit : Obligations.EveryStepKeepsCredit := by
  rintro s t ⟨room, credit⟩ h
  have limits : t.creditOk ∧ (s.update.credit < t.update.credit → t.update.credit = s.update.credit + 1 ∧
      ∃ c rest, s.pending = c :: rest ∧ ∃ op i, IsChange c op i) := by
    obtain kept | ⟨c, rest, hp, m⟩ := step_hostMove h
    · have hu : t.update = s.update := congrArg HostSide.update kept
      rw [hu]
      exact ⟨by rw [State.creditOk, hu]; exact ⟨room, credit⟩, fun hlt => absurd hlt (Nat.lt_irrefl _)⟩
    · obtain ⟨ho, hc⟩ | ⟨ho, hc, change, ho', hc'⟩ := m.credit_cases
      · exact ⟨⟨Nat.le_trans ho room, Nat.le_trans hc credit⟩, fun hlt => absurd hlt (Nat.not_lt_of_le hc)⟩
      · exact ⟨⟨ho'.trans_le ho, hc'.trans_le hc⟩, fun _ => ⟨hc', c, rest, hp, change⟩⟩
  obtain ⟨ok, rises⟩ := limits
  refine ⟨ok, fun full => List.length_eq_zero_iff.mp ?_, fun hlt => ?_⟩
  · have := ok.2
    omega
  · obtain ⟨hc, c, rest, hp, op, i, change⟩ := rises hlt
    exact ⟨hc, c, rest, hp, change.command⟩

/-- Settles O19: the four commands share one reply, in the order of its tests. -/
theorem changeCommandsTestThenQueue : Obligations.ChangeCommandsTestThenQueue := by
  intro c op i s hr (hc : IsChange c op i)
  exact ⟨fun h => hc.exec_ready hr (changeReply_state h), fun hs hl =>
    ⟨fun h => hc.exec_ready hr (changeReply_noCredit hs hl h), fun ho hq => hc.exec_ready hr (changeReply_accepted hs hl ho hq)⟩⟩

/-- Settles O21: the replies of both commands, by HELD. -/
theorem resumeAndDiscardHeadActOnHeldQueue : Obligations.ResumeAndDiscardHeadActOnHeldQueue := by
  intro s hr
  exact ⟨fun h => ⟨exec_resume hr (resumeReply_free h), exec_discardHead hr (discardHeadReply_free h)⟩, fun e rest h hq =>
    ⟨exec_resume hr (resumeReply_held h hq), exec_discardHead hr (discardHeadReply_held h hq)⟩⟩

/-- Settles O28: the source's part of the own DISCARDED close is the head's failure, below RETRY_LIMIT and on reaching it. -/
theorem discardedUpdateCountsAnAttempt : Obligations.DiscardedUpdateCountsAnAttempt := by
  rintro s u line ⟨f, position, spoil, rejected⟩ ticket op i e rest h hl rfl hd hq
  have update : (u.afterDiscarded (.update ticket op i) spoil.isSome).update = u.update := State.afterDiscarded_update ..
  have port : (u.afterDiscarded (.update ticket op i) spoil.isSome).port = u.port := State.afterDiscarded_port ..
  rw [← State.afterDiscarded_sync u (.update ticket op i) spoil.isSome] at hl
  rw [← update] at hq
  intro s₁ raised
  refine ⟨fun hn => ?_, fun hn hp => ?_, fun hn hp => ?_⟩ <;> rw [← port] at hn
  · rw [exec_discardedOwn_eq h hd (State.failHead_below hq hn) hl, update]
  · rw [← port] at hp
    rw [exec_discardedOwn_eq h hd (State.failHead_drop hq hn.not_lt hp) hl, update]
    rfl
  · rw [← port] at hp
    rw [exec_discardedOwn_eq h hd (State.failHead_hold hq hn.not_lt hp) hl, update]
    rfl

/-- Settles O54: a command that lets entries and records go keeps every setting, and each other move sets what its command is for. -/
theorem hostSettingsChangeOnlyByTheirCommands : Obligations.HostSettingsChangeOnlyByTheirCommands := by
  intro c s t h hreset
  exact (exec_hostMove h).settings hreset

end Sys2Proof

/-! ## Station states and lineage: JOIN, the listen window, the timers, the place on the line, the offer point, the closes of PRESENCE
and OFFER, a deferred leave, and the changes of station state

The laws first, in the order of the model; the statements follow at the end. -/

namespace Sys2Proof.Machine

/-! ### JOIN and WIPE (R75, R176) -/

section
variable {s : State}

theorem joinReply_refused (h : s.sync.state ≠ .idle) : joinReply s = ⟨.state, [], s⟩ := if_pos h

theorem joinReply_joins (h : s.sync.state = .idle) : joinReply s = ⟨.ok, [], s.joinSession⟩ := if_neg (not_not_intro h)

/-- JOIN at a ready port is answered with its reply. -/
theorem exec_join {reply : Reply} (hr : s.hostReady) (h : joinReply s = reply) :
    exec .join s = .next (reply.state.replied (statusCode reply.status) reply.bytes) := by
  subst h
  exact congrArg Host.Outcome.next (State.takeCommand_ready hr 0 joinReply)

theorem wipeReply_refused (h : s.sync.state ≠ .synced ∨ s.sync.leavePending = true) : wipeReply s = ⟨.state, [], s⟩ :=
  if_pos h

theorem wipeReply_busy (hs : s.sync.state = .synced) (hl : s.sync.leavePending = false) (hw : s.sync.wipePending ≠ none) :
    wipeReply s = ⟨.busy, [], s⟩ := by
  simp [wipeReply, hs, hl, Option.isSome_iff_ne_none.mpr hw, refuse]

theorem wipeReply_accepted (hs : s.sync.state = .synced) (hl : s.sync.leavePending = false) (hw : s.sync.wipePending = none) :
    wipeReply s = ⟨.ok, [], { s with sync := { s.sync with wipePending := some (s.sync.position.generation + 1) } }⟩ := by
  simp [wipeReply, hs, hl, hw]

/-- WIPE at a ready port is answered with its reply. -/
theorem exec_wipe {reply : Reply} (hr : s.hostReady) (h : wipeReply s = reply) :
    exec .wipe s = .next (reply.state.replied (statusCode reply.status) reply.bytes) := by
  subst h
  exact congrArg Host.Outcome.next (State.takeCommand_ready hr 0 wipeReply)

end

/-! ### The timers (R77, R83, R100, R113, R122) -/

section
variable {s : State}

theorem exec_listenTimerExpiry (h : s.sync.listenTimer ≠ none) : exec .listenTimerExpiry s = .next s.endListenWindow :=
  congrArg Host.Outcome.next (if_pos (Option.isSome_iff_ne_none.mpr h))

/-- A set flag in LISTEN leads to a request (R77). -/
theorem State.endListenWindow_requests (hs : s.sync.state = .listen)
    (hf : s.sync.evidenceHeard = true ∨ s.sync.lowerHeard = true) : s.endListenWindow = s.nowRequesting .joined := by
  simp only [State.endListenWindow, hs, Bool.or_eq_true, if_pos hf, State.beginRequest_eq]

/-- A set flag in STRANDED restarts the window (R83). -/
theorem State.endListenWindow_restarts (hs : s.sync.state = .stranded)
    (hf : s.sync.evidenceHeard = true ∨ s.sync.lowerHeard = true) :
    s.endListenWindow =
      { s with
        sync :=
          { s.sync with
            listenTimer := some (3 * s.port.inEffect.presenceInterval), evidenceHeard := false, lowerHeard := false } } := by
  simp only [State.endListenWindow, hs, Bool.or_eq_true, if_pos hf]

/-- Clear flags lead to founding (R78). -/
theorem State.endListenWindow_founds (hs : s.sync.state = .listen ∨ s.sync.state = .stranded)
    (he : s.sync.evidenceHeard = false) (hl : s.sync.lowerHeard = false) : s.endListenWindow = s.nowFounder := by
  obtain hs | hs := hs <;> simp [State.endListenWindow, hs, he, hl, State.found_eq]

/-! ### A peer's watch timer (R126, R127, R128, R130) -/

theorem exec_watchTimerExpiry {x : Station} (hx : x ≠ s.number) (ht : s.peers.entries[x].watchTimer ≠ none) :
    exec (.watchTimerExpiry x) s = .next (s.expireWatch x) :=
  congrArg Host.Outcome.next (if_pos ⟨hx, Option.isSome_iff_ne_none.mpr ht⟩)

theorem State.expireWatch_arriving {x : Station} (hp : s.peers.entries[x].state = .arriving) :
    s.expireWatch x = (s.withPeer x s.peers.entries[x].gone).peerLost x := by
  simp only [State.expireWatch, hp, State.loseTransfers_eq]
  rfl

/-- An entry that is PRESENT or FADING counts a miss. -/
theorem State.expireWatch_misses {x : Station} (hp : s.peers.entries[x].state = .present ∨ s.peers.entries[x].state = .fading) :
    s.expireWatch x =
      s.missPeer x (if s.peers.entries[x].state = .fading then s.peers.entries[x].misses + 1 else 1) := by
  obtain hp | hp := hp <;> simp only [State.expireWatch, hp] <;> rfl

theorem State.missPeer_fades {x : Station} {misses : Nat} (h : misses < s.port.inEffect.unlockN) :
    s.missPeer x misses =
      s.withPeer x
        { s.peers.entries[x] with
          state := .fading, misses := misses, watchTimer := some (2 * s.peers.entries[x].advertisedP) } := if_pos h

theorem State.missPeer_drops {x : Station} {misses : Nat} (h : misses = s.port.inEffect.unlockN) :
    s.missPeer x misses =
      ((s.withPeer x
          { s.peers.entries[x].gone with
            evictPending := match s.sync.state with | .synced => true | _ => s.peers.entries[x].evictPending }).post
        (.peerDown x)).peerLost x := by
  have pending : (s.peers.entries[x].gone.evictPending || decide (s.sync.state = .synced)) =
      match s.sync.state with | .synced => true | _ => s.peers.entries[x].evictPending := by
    cases s.sync.state <;> simp [Peer.gone]
  rw [State.missPeer, if_neg h.not_lt, State.dropPeer, State.loseTransfers_eq, ← pending]
  rfl

end

/-! ### The order of positions (R85) -/

/-- Number `a` is after `b` in the circle of `2 * half` numbers: less than half of it further on, or half of it and the larger. -/
def CircularlyAfter (half a b : Nat) : Prop :=
  let d := (a + 2 * half - b) % (2 * half)
  1 ≤ d ∧ d ≤ half - 1 ∨ d = half ∧ b < a

section
variable {half a b : Nat}

theorem circularlyAfter_iff (ha : a < 2 * half) (hb : b < 2 * half) :
    CircularlyAfter half a b ↔ b < a ∧ a - b ≤ half ∨ a < b ∧ half < b - a := by
  unfold CircularlyAfter
  obtain h | h := Nat.lt_or_ge a b
  · rw [Nat.mod_eq_of_lt (by omega)]
    omega
  · rw [show a + 2 * half - b = a - b + 2 * half by omega, Nat.add_mod_right, Nat.mod_eq_of_lt (by omega)]
    omega

/-- Of two numbers that differ exactly one is after the other. -/
theorem circularlyAfter_swap (ha : a < 2 * half) (hb : b < 2 * half) (h : a ≠ b) :
    CircularlyAfter half a b ↔ ¬ CircularlyAfter half b a := by
  rw [circularlyAfter_iff ha hb, circularlyAfter_iff hb ha]
  omega

end

theorem laterGeneration_iff (a b : Half) : laterGeneration a b = true ↔ CircularlyAfter 32768 a.toNat b.toNat := by
  have difference : (a - b).toNat = (a.toNat + 2 * 32768 - b.toNat) % (2 * 32768) := by rw [BitVec.toNat_sub]; congr 1; omega
  simp only [laterGeneration, CircularlyAfter, difference, Bool.or_eq_true, decide_eq_true_eq]

theorem higherCount_iff (a b : Word) : higherCount a b = true ↔ CircularlyAfter 2147483648 a.toNat b.toNat := by
  have difference : (a - b).toNat = (a.toNat + 2 * 2147483648 - b.toNat) % (2 * 2147483648) := by
    rw [BitVec.toNat_sub]; congr 1; omega
  simp only [higherCount, CircularlyAfter, difference, Bool.or_eq_true, decide_eq_true_eq]

theorem laterGeneration_swap {a b : Half} (h : a ≠ b) : laterGeneration a b = true ↔ ¬ laterGeneration b a = true := by
  rw [laterGeneration_iff, laterGeneration_iff]
  exact circularlyAfter_swap a.isLt b.isLt (mt BitVec.eq_of_toNat_eq h)

theorem higherCount_swap {a b : Word} (h : a ≠ b) : higherCount a b = true ↔ ¬ higherCount b a = true := by
  rw [higherCount_iff, higherCount_iff]
  exact circularlyAfter_swap a.isLt b.isLt (mt BitVec.eq_of_toNat_eq h)

section
variable {a b : Carried}

/-- The first test that tells two positions apart decides. -/
theorem comparePositions_ahead :
    comparePositions a b = .ahead ↔
      a.generation ≠ b.generation ∧ laterGeneration a.generation b.generation = true ∨
      a.generation = b.generation ∧ a.count ≠ b.count ∧ higherCount a.count b.count = true ∨
      a.generation = b.generation ∧ a.count = b.count ∧ a.origin.val < b.origin.val ∨
      a.generation = b.generation ∧ a.count = b.count ∧ a.origin = b.origin ∧ a.digest.toNat < b.digest.toNat := by
  unfold comparePositions
  by_cases hg : a.generation = b.generation
  · by_cases hc : a.count = b.count
    · by_cases ho : a.origin = b.origin
      · by_cases hd : a.digest = b.digest <;> simp [hg, hc, ho, hd]
      · simp [hg, hc, ho]
    · simp [hg, hc]
  · simp [hg]

theorem comparePositions_equal : comparePositions a b = .equal ↔ a = b := by
  refine ⟨fun h => ?_, ?_⟩
  · unfold comparePositions at h
    split_ifs at h with hg hl hc hh ho hlt hd hdl
    simp only [ne_eq, not_not] at hg hc ho hd
    obtain ⟨g, o, c, d⟩ := a
    simp_all
  · rintro rfl
    simp [comparePositions]

/-- Each test that puts one position ahead puts the other behind. -/
theorem comparePositions_swap : comparePositions a b = .ahead ↔ comparePositions b a = .behind := by
  unfold comparePositions
  by_cases hg : a.generation = b.generation
  · by_cases hc : a.count = b.count
    · by_cases ho : a.origin = b.origin
      · by_cases hd : a.digest = b.digest
        · simp [hg, hc, ho, hd]
        · have lower : a.digest.toNat < b.digest.toNat ↔ ¬ b.digest.toNat < a.digest.toNat := by
            have := mt BitVec.eq_of_toNat_eq hd
            omega
          simp [hg, hc, ho, hd, Ne.symm hd, lower]
      · have lower : a.origin < b.origin ↔ ¬ b.origin < a.origin := by
          rw [not_lt]; exact (Ne.le_iff_lt ho).symm
        simp [hg, hc, ho, Ne.symm ho, lower]
    · simp [hg, hc, Ne.symm hc, higherCount_swap hc]
  · simp [hg, Ne.symm hg, laterGeneration_swap hg]

end

/-! ### The place on the line (R145, R146, R147) -/

section
variable {s u : State} {line : Levels}

theorem exec_lostPlace {how : PlaceLoss} (h : s.heard line = some (.lostPlace how, u)) :
    exec (.lostPlace line) s = .next
      (if u.sync.state = .synced then (u.outOfStep how).outOfSynced .missedFrame else u.outOfStep how) := by
  show execLostPlace line s = _
  simp only [execLostPlace, h, State.losePlace_eq, State.leaveSynced_eq]

theorem exec_regainStep {how : StepGain} (h : s.heard line = some (.regain how, u)) :
    exec (.regainStep line) s = .next (u.regain how) := by
  show execRegainStep line s = _
  simp only [execRegainStep, h]

end

section
variable {e : Ear} {bus : BusInterface}

theorem BusInterface.hear_idle {b : Bool} (hc : bus.current = .idle) (hi : bus.inStep = true) :
    bus.hear e b = bus.hearIdle e b := by
  simp only [BusInterface.hear, hc, hi, if_true]

theorem BusInterface.hear_outOfStep {b : Bool} (hc : bus.current = .idle) (hi : bus.inStep = false) :
    bus.hear e b = bus.hearOutOfStep b := by
  simp only [BusInterface.hear, hc, hi, Bool.false_eq_true, if_false]

theorem BusInterface.hearIdle_startBit (hr : 11 ≤ bus.recessiveRun) :
    bus.hearIdle e false =
      { bus with recessiveRun := 0, badTail := false, current := .receiving Reader.start e.takesPart false } := if_pos hr

/-- A dominant bit before the bus is idle: the place of a bad frame is lost, and elsewhere it is noise (R145, R146). -/
theorem BusInterface.hearIdle_early (hr : bus.recessiveRun < 11) :
    bus.hearIdle e false =
      if bus.badTail then { bus with due := some (.lostPlace .dominantAfterEnd) } else { bus with recessiveRun := 0 } :=
  if_neg (Nat.not_le_of_lt hr)

theorem BusInterface.hearOutOfStep_startBit (hr : 11 ≤ bus.recessiveRun) :
    bus.hearOutOfStep false = { bus with due := some (.regain .startBit) } := if_pos hr

theorem BusInterface.hearOutOfStep_early (hr : bus.recessiveRun < 11) :
    bus.hearOutOfStep false = { bus with recessiveRun := 0 } := if_neg (Nat.not_le_of_lt hr)

/-- A bit of a received frame before its placed end: eleven recessive ones lose the place (R145). -/
theorem BusInterface.hear_fields {b : Bool} {r : Reader} {closes rejecting : Bool}
    (hc : bus.current = .receiving r closes rejecting) (ht : (r.hear b).tail = []) :
    bus.hear e b =
      { bus with
        current := .receiving (r.hear b) closes rejecting
        due     := if 11 ≤ (r.hear b).recessive then some (.lostPlace .elevenRecessive) else none } := by
  rw [BusInterface.hear_receiving hc, BusInterface.hearFrame_eq, if_pos (by rw [ht]; rfl)]

end

/-! ### The offer point (R152) -/

section
variable {s : State}

/-- The first of a row of offers: that of its first source, or the first of the others. -/
theorem findSome?_id_cons {α : Type} (o : Option α) (rest : List (Option α)) :
    (o :: rest).findSome? id = o.or (rest.findSome? id) := by
  cases o <;> rfl

/-- The first pending frame, source by source (R152). -/
theorem State.choose_eq :
    s.choose =
      (s.sync.wipePending.map fun _ => Frame.wipe (s.sync.position.generation + 1)).or
        ((s.evictTarget.map .evict).or
          ((s.sync.offer.map fun o => .offer o.joiner o.start).or
            ((s.pendingRequest.map .syncRequest).or
              ((if s.peers.presencePending then some s.presenceFrame else none).or
                ((s.sendableHead.map fun e => .update e.ticket e.op e.index).or (s.sync.donor.map s.snapshotFrame)))))) := by
  unfold State.choose
  cases s.sync.wipePending with
  | some g => rfl
  | none => cases s.evictTarget with
    | some x => rfl
    | none => cases s.sync.offer with
      | some o => rfl
      | none => cases s.pendingRequest with
        | some k => rfl
        | none => cases s.peers.presencePending with
          | true => rfl
          | false => cases s.sendableHead <;> rfl

theorem State.pendingRequest_map :
    s.pendingRequest.map Frame.syncRequest =
      match s.sync.state with
      | .syncing _ next _ => if s.sync.syncRequest then some (.syncRequest next) else none
      | _ => none := by
  unfold State.pendingRequest
  cases s.sync.state <;> cases s.sync.syncRequest <;> rfl

theorem State.sendableHead_map :
    (s.sendableHead.map fun e => Frame.update e.ticket e.op e.index) =
      match s.update.outbound with
      | e :: _ => if s.sync.state = .synced ∧ s.update.held = false then some (.update e.ticket e.op e.index) else none
      | [] => none := by
  unfold State.sendableHead
  simp only [Bool.not_eq_true]
  cases s.update.outbound <;> split <;> rfl

/-- The PRESENCE as filled in: the state's code, P, and the position of a SYNCED station (R123, R159). -/
theorem State.presenceFrame_eq :
    s.presenceFrame =
      .presence
        (match s.sync.state with | .idle => 0 | .listen => 1 | .syncing .. => 2 | .synced => 3 | .stranded => 4)
        (BitVec.ofNat 8 s.port.inEffect.presenceInterval)
        (if s.sync.state = .synced then s.sync.position.carried else ⟨0, 0, 0, 0⟩) := by
  unfold State.presenceFrame
  cases s.sync.state <;> rfl

/-- The frame offered is the own frame from its start bit on; a WIPE marks the generation that it carries (R89). -/
theorem State.drive_eq (f : Frame) :
    s.drive f =
      { s with
        bus  := { s.bus with current := .own { frame := f, position := 0, spoil := none, rejected := false } }
        sync := { s.sync with wipePending := match f with | .wipe g => some g | _ => s.sync.wipePending } } := by
  cases f <;> rfl

theorem State.offer_chooses (hs : s.sync.state ≠ .idle) (ho : s.selector.sitOut = false) :
    s.offer = match s.choose with | none => s | some f => s.drive f := by
  simp only [State.offer, if_neg hs, ho, Bool.false_eq_true, if_false]
  cases s.choose <;> rfl

theorem exec_offerPoint {u : State} {line : Levels} (h : s.heard line = some (.offerPoint, u)) :
    exec (.offerPoint line) s = .next u.offer := by
  show execOfferPoint s line = _
  simp only [execOfferPoint, h]

end

/-! ### PRESENCE of another station (R76, R83, R84, R86, R124 to R128, R131) -/

/-- A peer entry's hysteresis in the words of the claims. -/
theorem Peer.afterPresence_eq (p : Peer) (x : Station) (lockN : Nat) (st iv : Byte) (c : Carried) :
    p.afterPresence x lockN st iv c =
      (((p.heard st iv c).arrive lockN).1, if ((p.heard st iv c).arrive lockN).2 then [.peerUp x] else []) := by
  obtain ⟨state, hits⟩ := p
  cases state with
  | absent => by_cases h : lockN = 1 <;> simp only [Peer.afterPresence, Peer.arrive, Peer.heard, h, if_true, if_false] <;> rfl
  | arriving =>
    by_cases h : hits + 1 = lockN <;> simp only [Peer.afterPresence, Peer.arrive, Peer.heard, h, if_true, if_false] <;> rfl
  | present => rfl
  | fading => rfl

/-- The peer unit has heard a PRESENCE of `x`: its entry with the relation `r`, and the events posted. -/
def State.peerHeard (s : State) (x : Station) (heard : Peer × List Event) (r : Relation) : State :=
  (s.withPeer x { heard.1 with relation := r }).postAll heard.2

section
variable {s : State} {x : Station} {st iv : Byte} {c : Carried} {heard : Peer × List Event} {r r' : Relation}

@[simp] theorem State.peerHeard_sync : (s.peerHeard x heard r).sync = s.sync := by
  rw [State.peerHeard, State.postAll_eq]; rfl

@[simp] theorem State.peerHeard_straps : (s.peerHeard x heard r).straps = s.straps := by
  rw [State.peerHeard, State.postAll_eq]; rfl

theorem State.hearPeer_eq (hx : x ≠ s.number) :
    s.hearPeer x st iv c =
      s.peerHeard x (s.peers.entries[x].afterPresence x s.port.inEffect.lockN st iv c)
        (s.peers.entries[x].afterPresence x s.port.inEffect.lockN st iv c).1.relation := by
  rw [Peer.afterPresence_eq, State.hearPeer, if_neg hx]
  generalize (s.peers.entries[x].heard st iv c).arrive s.port.inEffect.lockN = arrived
  obtain ⟨p, up⟩ := arrived
  cases up <;> rfl

/-- The relation is written last. -/
theorem State.setRelation_peerHeard (hx : x ≠ s.number) : (s.peerHeard x heard r').setRelation x r = s.peerHeard x heard r := by
  have hn : x ≠ (s.peerHeard x heard r').number := by rwa [State.number, State.peerHeard_straps]
  have again (p q : Peer) : put (put s.peers.entries x p) x q = put s.peers.entries x q := Vector.set_set ..
  rw [State.setRelation, if_neg hn]
  simp only [State.peerHeard, State.postAll_eq, State.setPeer, State.withPeer, again, Fin.getElem_fin, put_getElem_same]

variable {reported : Option Reported}

theorem State.weighPresence_ahead (hs : s.sync.state = .synced) (hc : comparePositions c s.sync.position.carried = .ahead) :
    s.weighPresence x (some .synced) c = s.outOfSynced .behind := by
  simp only [State.weighPresence, hs, State.compareWith, hc, State.leaveSynced_eq, if_true]

theorem State.weighPresence_behind (hs : s.sync.state = .synced) (hc : comparePositions c s.sync.position.carried = .behind) :
    s.weighPresence x (some .synced) c = s.setRelation x .lagging := by
  simp only [State.weighPresence, hs, State.compareWith, hc, if_true]

theorem State.weighPresence_equal (hs : s.sync.state = .synced) (hc : comparePositions c s.sync.position.carried = .equal) :
    s.weighPresence x (some .synced) c = s.setRelation x .consistent := by
  simp only [State.weighPresence, hs, State.compareWith, hc, if_true]

/-- A SYNCED station compares with SYNCED stations only, and a joiner with none (R84, R131). -/
theorem State.weighPresence_uncompared
    (h : s.sync.state = .synced ∧ reported ≠ some .synced ∨
      ∃ sub next attempts, s.sync.state = .syncing sub next attempts) :
    s.weighPresence x reported c = s.setRelation x .unknown := by
  obtain ⟨hs, hr⟩ | ⟨sub, next, attempts, hs⟩ := h
  · simp only [State.weighPresence, hs, if_neg hr]
  · simp only [State.weighPresence, hs]

theorem State.weighPresence_evidence (hs : s.sync.state = .listen) :
    s.weighPresence x (some .synced) c = (s.setRelation x .unknown).hearEvidence := by
  simp only [State.weighPresence, hs, if_true]

theorem State.weighPresence_rescued (hs : s.sync.state = .stranded) :
    s.weighPresence x (some .synced) c = (s.setRelation x .unknown).nowRequesting .syncedPeerHeard := by
  simp only [State.weighPresence, hs, if_true, State.beginRequest_eq]

/-- LISTEN and STRANDED note a lower-numbered starter (R76). -/
theorem State.weighPresence_starter (hl : s.sync.state = .listen ∨ s.sync.state = .stranded) (hr : reported ≠ some .synced) :
    s.weighPresence x reported c = (s.setRelation x .unknown).hearLower x reported := by
  obtain hs | hs := hl <;> simp only [State.weighPresence, hs, if_neg hr]

end

/-- A state byte that reports a station which starts up or starts anew (R76, R159). -/
theorem reportedOf_starter (st : Byte) :
    (reportedOf st = some .listen ∨ reportedOf st = some .syncing ∨ reportedOf st = some .stranded) ↔
      st = 1 ∨ st = 2 ∨ st = 4 := by
  by_cases h1 : st = 1
  · subst h1; decide
  by_cases h2 : st = 2
  · subst h2; decide
  by_cases h3 : st = 3
  · subst h3; decide
  by_cases h4 : st = 4
  · subst h4; decide
  rw [reportedOf, if_neg h1, if_neg h2, if_neg h3, if_neg h4]
  exact iff_of_false (by simp) fun h => h.elim h1 fun h => h.elim h2 h4

/-! ### OFFER (R101, R103, R104) -/

section
variable {s : State} {x j : Station} {k : Segment}

theorem State.withdrawOffer_eq :
    s.withdrawOffer j = { s with sync := { s.sync with offer := s.sync.offer.filter fun o => o.joiner != j } } := by
  obtain ⟨straps, table, update, ⟨state, leave, position, listen, evidence, lower, wipe, request, donor, offer⟩⟩ := s
  cases offer with
  | none => rfl
  | some o => by_cases ho : o.joiner = j <;> simp [State.withdrawOffer, Option.filter, ho]

/-- A joiner in REQUESTING takes the OFFER that names it and starts at its next segment (R101). -/
theorem State.takeOffer_taken {attempts : Nat} (hs : s.sync.state = .syncing .requesting k attempts) (hj : j = s.number) :
    s.takeOffer x j k =
      { s with
        sync :=
          { s.sync with
            state := .syncing (.receiving x) k attempts, syncRequest := false, offerTimer := none
            segmentTimer := some (4 * s.port.inEffect.presenceInterval) } } := by
  simp only [State.takeOffer, hs, hj, and_self, if_true]

theorem State.takeOffer_other
    (h : ∀ next attempts, s.sync.state = .syncing .requesting next attempts → ¬ (j = s.number ∧ k = next)) :
    s.takeOffer x j k = s := by
  unfold State.takeOffer
  split
  · next hs => exact if_neg (h _ _ hs)
  · rfl

/-- OFFER_CLOSE of another station's frame: evidence, the own OFFER withdrawn, then the joiner's part. -/
theorem exec_offerReceived {u : State} {line : Levels} (h : s.takesClose line false x (.offer j k) u) :
    exec (.offerClose line) s = .next ((u.afterReceived.hearEvidence.withdrawOffer j).takeOffer x j k) :=
  congrArg Host.Outcome.next (State.closeCommitted_eq h rfl nofun)

/-- OFFER_CLOSE of a SYNCED station's own frame begins serving. -/
theorem exec_offerSent {u : State} {line : Levels} (h : s.takesClose line true x (.offer j k) u) (hs : u.sync.state = .synced) :
    exec (.offerClose line) s = .next
      { u.afterSent (.offer j k) with
        sync := { u.sync with donor := some { joiner := j, next := k, attempts := 0 }, offer := none } } := by
  refine congrArg Host.Outcome.next (State.closeCommitted_eq (act := actOffer) h ?_ fun _ => rfl)
  have quiet : (u.afterSent (.offer j k)).hearEvidence = u.afterSent (.offer j k) :=
    State.hearEvidence_other (s := u.afterSent _) (congrArg StationState.listens hs)
  exact (congrArg (State.beginServing · j k) quiet).trans (if_pos hs)

end

/-! ### The transfers with a peer that is lost, one by one (R107, R114) -/

/-- A transfer served to `x` ends (R107). -/
def State.joinerLost (s : State) (x : Station) : State :=
  match s.sync.donor with
  | some d => if d.joiner = x then s.endServing .joinerLost else s
  | none   => s

/-- A transfer received from `x` ends (R114). -/
def State.donorLost (s : State) (x : Station) : State :=
  match s.sync.state with
  | .syncing (.receiving d) next attempts =>
    if d = x then (s.post (.transferRestart .donorLost)).retry next attempts else s
  | _ => s

theorem State.loseTransfers_parts (s : State) (x : Station) : s.loseTransfers x = (s.joinerLost x).donorLost x := rfl

/-! ### A deferred leave (R93)

No act of a close reads or writes leave-pending. So each gives the same station with it set as with it clear, but for the mark
itself. -/

/-- The station with leave-pending set or clear. -/
def State.withLeave (s : State) (b : Bool) : State := { s with sync := { s.sync with leavePending := b } }

section
variable (s : State) (b : Bool)

theorem State.withLeave_ite {p : Prop} [Decidable p] {s t : State} (b : Bool) :
    (if p then s else t).withLeave b = if p then s.withLeave b else t.withLeave b :=
  apply_ite (State.withLeave · b) p s t

@[simp] theorem State.withLeave_state : (s.withLeave b).sync.state = s.sync.state := rfl
@[simp] theorem State.withLeave_donor : (s.withLeave b).sync.donor = s.sync.donor := rfl
@[simp] theorem State.withLeave_position : (s.withLeave b).sync.position = s.sync.position := rfl

/-- Going IDLE clears the mark. -/
theorem State.nowIdle_withLeave : (s.withLeave b).nowIdle = s.nowIdle := rfl

@[simp] theorem State.post_withLeave (e : Event) : (s.withLeave b).post e = (s.post e).withLeave b := rfl
@[simp] theorem State.cancel_withLeave (r : Result) : (s.withLeave b).cancel r = (s.cancel r).withLeave b := rfl
@[simp] theorem State.releaseClaims_withLeave (z : Station) :
    (s.withLeave b).releaseClaims z = (s.releaseClaims z).withLeave b := rfl
@[simp] theorem State.takeWipe_withLeave (x : Station) (g : Half) :
    (s.withLeave b).takeWipe x g = (s.takeWipe x g).withLeave b := rfl
@[simp] theorem State.becomeSynced_withLeave : (s.withLeave b).becomeSynced = s.becomeSynced.withLeave b := rfl
@[simp] theorem State.afterSent_withLeave (f : Frame) : (s.withLeave b).afterSent f = (s.afterSent f).withLeave b := rfl

@[simp] theorem State.afterDiscarded_withLeave (f : Frame) (spoiled : Bool) :
    (s.withLeave b).afterDiscarded f spoiled = (s.afterDiscarded f spoiled).withLeave b := by
  cases spoiled <;> rfl

@[simp] theorem State.hearEvidence_withLeave : (s.withLeave b).hearEvidence = s.hearEvidence.withLeave b := by
  rw [State.hearEvidence_eq, State.hearEvidence_eq, State.withLeave_ite]
  rfl

@[simp] theorem State.countFrame_withLeave (bytes : List Byte) :
    (s.withLeave b).countFrame bytes = (s.countFrame bytes).withLeave b := by
  unfold State.countFrame
  simp only [State.withLeave_state, State.withLeave_position]
  cases s.sync.state <;> simp only [State.withLeave_ite] <;> rfl

@[simp] theorem State.noteChange_withLeave (i : Index) (x : Station) :
    (s.withLeave b).noteChange i x = (s.noteChange i x).withLeave b :=
  (State.noteChange_withSync s i x { s.sync with leavePending := b }).symm.trans
    (by rw [State.withLeave, State.noteChange_sync])

@[simp] theorem State.applyEvaluation_withLeave (cl : Closing) (i : Index) (out : Option (Result × Rec)) :
    (s.withLeave b).applyEvaluation cl i out = (s.applyEvaluation cl i out).withLeave b := by
  cases out with
  | none => rfl
  | some out =>
    simp only [State.applyEvaluation, State.withLeave_ite, ← State.noteChange_withLeave]
    rfl

@[simp] theorem State.settleHead_withLeave (r : Result) (v : Half) :
    (s.withLeave b).settleHead r v = (s.settleHead r v).withLeave b := by
  obtain ⟨_, _, ⟨outbound⟩⟩ := s
  cases outbound <;> rfl

@[simp] theorem State.settleEvaluation_withLeave (cl : Closing) (out : Option (Result × Rec)) :
    (s.withLeave b).settleEvaluation cl out = (s.settleEvaluation cl out).withLeave b := by
  cases out with
  | none => rfl
  | some out => simp only [State.settleEvaluation, State.withLeave_ite, State.settleHead_withLeave]

@[simp] theorem State.endServing_withLeave (why : EndReason) :
    (s.withLeave b).endServing why = (s.endServing why).withLeave b := by
  rw [State.endServing_eq, State.endServing_eq, State.postAll_eq, State.postAll_eq]
  rfl

@[simp] theorem State.retry_withLeave (next : Segment) (attempts : Nat) :
    (s.withLeave b).retry next attempts = (s.retry next attempts).withLeave b := by
  simp only [State.retry, State.withLeave_ite]
  rfl

@[simp] theorem State.joinerLost_withLeave (x : Station) : (s.withLeave b).joinerLost x = (s.joinerLost x).withLeave b := by
  unfold State.joinerLost
  rw [State.withLeave_donor]
  cases s.sync.donor with
  | none => rfl
  | some d => simp only [State.endServing_withLeave, State.withLeave_ite]

@[simp] theorem State.donorLost_withLeave (x : Station) : (s.withLeave b).donorLost x = (s.donorLost x).withLeave b := by
  unfold State.donorLost
  rw [State.withLeave_state]
  cases s.sync.state with
  | syncing sub next attempts => cases sub with
    | requesting => rfl
    | receiving d => simp only [State.post_withLeave, State.retry_withLeave, State.withLeave_ite]
  | _ => rfl

@[simp] theorem State.loseTransfers_withLeave (x : Station) :
    (s.withLeave b).loseTransfers x = (s.loseTransfers x).withLeave b := by
  rw [State.loseTransfers_parts, State.loseTransfers_parts, State.joinerLost_withLeave, State.donorLost_withLeave]

@[simp] theorem State.evictPeer_withLeave (z x : Station) :
    (s.withLeave b).evictPeer z x = (s.evictPeer z x).withLeave b := by
  simp only [State.evictPeer, State.withLeave_ite, ← State.loseTransfers_withLeave]
  rfl

@[simp] theorem State.requestSent_withLeave : (s.withLeave b).requestSent = s.requestSent.withLeave b := by
  unfold State.requestSent
  rw [State.withLeave_state]
  cases s.sync.state with
  | syncing sub => cases sub with
    | requesting => simp only [State.withLeave_ite]; rfl
    | receiving d => rfl
  | _ => rfl

@[simp] theorem State.beginServing_withLeave (j : Station) (k : Segment) :
    (s.withLeave b).beginServing j k = (s.beginServing j k).withLeave b := by
  simp only [State.beginServing, State.withLeave_ite]
  rfl

@[simp] theorem State.settleSegment_withLeave : (s.withLeave b).settleSegment = s.settleSegment.withLeave b := by
  unfold State.settleSegment
  rw [State.withLeave_donor, State.endServing_withLeave]
  cases s.sync.donor with
  | none => rfl
  | some d => dsimp only; split <;> rfl

@[simp] theorem State.failHead_withLeave : (s.withLeave b).failHead = s.failHead.withLeave b := by
  unfold State.failHead
  rw [show (s.withLeave b).update = s.update from rfl, show (s.withLeave b).port = s.port from rfl]
  cases s.update.outbound with
  | nil => rfl
  | cons e rest =>
    simp only [State.withLeave_ite]
    cases s.port.inEffect.failPolicy <;> rfl

@[simp] theorem State.failSegment_withLeave : (s.withLeave b).failSegment = s.failSegment.withLeave b := by
  unfold State.failSegment
  rw [State.withLeave_donor, State.endServing_withLeave]
  cases s.sync.donor with
  | none => rfl
  | some d => simp only [State.withLeave_ite]; rfl

@[simp] theorem State.settleDiscarded_withLeave (f : Frame) :
    (s.withLeave b).settleDiscarded f = (s.settleDiscarded f).withLeave b := by
  cases f with
  | update => exact s.failHead_withLeave b
  | snapshot => exact s.failSegment_withLeave b
  | _ => rfl

@[simp] theorem State.spoilCounted_withLeave (spoiled : Bool) :
    (s.withLeave b).spoilCounted spoiled = (s.spoilCounted spoiled).withLeave b := by
  simp only [State.spoilCounted, State.withLeave_ite]
  rfl

/-- The acts of a close of kind `k`. -/
def closeAct (k : Kind) : Closing → State → State :=
  match k with
  | .presence    => actPresence
  | .update      => actUpdate
  | .wipe        => actWipe
  | .evict       => actEvict
  | .syncRequest => actSyncRequest
  | .offer       => actOffer
  | .snapshot    => actSnapshot

/-- The command of a close runs the acts of its kind. -/
theorem exec_closeOf_act (k : Kind) (line : Levels) : exec (closeOf k line) s = .next (s.closeCommitted line k (closeAct k)) := by
  cases k <;> rfl

theorem actUpdate_withLeave (cl : Closing) : actUpdate cl (s.withLeave b) = (actUpdate cl s).withLeave b := by
  unfold actUpdate
  split
  · simp only [State.hearEvidence_withLeave, State.applyEvaluation_withLeave, State.countFrame_withLeave,
      ← State.settleEvaluation_withLeave]
    rfl
  · rfl

theorem actEvict_withLeave (cl : Closing) : actEvict cl (s.withLeave b) = (actEvict cl s).withLeave b := by
  unfold actEvict
  split <;> simp

theorem actWipe_withLeave (cl : Closing) : actWipe cl (s.withLeave b) = (actWipe cl s).withLeave b := by
  unfold actWipe
  split
  · simp only [State.cancel_withLeave, State.withLeave_state]
    cases (s.cancel .cancelledWipe).sync.state <;> simp
  · rfl

/-- What the sender of a committed frame does at its close. -/
theorem closeAct_withLeave (x : Station) (f : Frame) :
    closeAct f.kind ⟨x, true, f⟩ (s.withLeave b) = (closeAct f.kind ⟨x, true, f⟩ s).withLeave b := by
  cases f with
  | presence => rfl
  | update ticket op i => exact actUpdate_withLeave s b ⟨x, true, .update ticket op i⟩
  | wipe g => exact actWipe_withLeave s b ⟨x, true, .wipe g⟩
  | evict z => exact actEvict_withLeave s b ⟨x, true, .evict z⟩
  | syncRequest => exact s.requestSent_withLeave b
  | offer => simp [closeAct, Frame.kind, actOffer]
  | snapshot => simp [closeAct, Frame.kind, actSnapshot]

end

section
variable {s u : State} {line : Levels} {o : OwnFrame}

/-- The levels of the line are followed alike. -/
theorem State.sendsFrame_withLeave (h : s.sendsFrame line o u) (b : Bool) : (s.withLeave b).sendsFrame line o (u.withLeave b) := by
  obtain ⟨hu, hs, hc⟩ := h
  obtain ⟨bus, hf, hd, rfl⟩ := State.heard_iff.mp hu
  exact ⟨State.heard_iff.mpr ⟨bus, hf, hd, rfl⟩, hs, hc⟩

/-- What the blocks do at the close of the own frame `o`, before a deferred leave (R32, R33). -/
def State.ownClosed (s : State) (o : OwnFrame) : State :=
  if o.spoil.isSome ∨ o.rejected then
    ((s.afterDiscarded o.frame o.spoil.isSome).settleDiscarded o.frame).spoilCounted o.spoil.isSome
  else closeAct o.frame.kind ⟨s.number, true, o.frame⟩ (s.afterSent o.frame)

/-- The close of the own frame: the blocks, and then a deferred leave (R93). -/
theorem exec_ownClose (h : s.sendsFrame line o u) :
    exec (if o.spoil.isSome ∨ o.rejected then .discardedClose line else closeOf o.frame.kind line) s =
      .next ((u.ownClosed o).afterOwnClose true) := by
  by_cases hd : o.spoil.isSome = true ∨ o.rejected = true
  · rw [if_pos hd, exec_discardedOwn h hd, State.ownClosed, if_pos hd]
  · have hands : u.handsClose = true := by simp [State.handsClose, h.2.1, h.2.2]
    rw [if_neg hd, exec_closeOf_act, State.ownClosed, if_neg hd, State.closeCommitted, State.closing_own h.1 h.2.2, if_neg hd]
    simp only [hands, if_true]
    rfl

theorem State.ownClosed_withLeave (s : State) (o : OwnFrame) (b : Bool) :
    (s.withLeave b).ownClosed o = (s.ownClosed o).withLeave b := by
  simp only [State.ownClosed, State.withLeave_ite, State.afterDiscarded_withLeave, State.settleDiscarded_withLeave,
    State.spoilCounted_withLeave, State.afterSent_withLeave, closeAct_withLeave]
  rfl

/-- The blocks leave leave-pending as it stands. -/
theorem State.ownClosed_leavePending (s : State) (o : OwnFrame) : (s.ownClosed o).sync.leavePending = s.sync.leavePending := by
  have h := s.ownClosed_withLeave o s.sync.leavePending
  rw [show s.withLeave s.sync.leavePending = s from rfl] at h
  rw [h]
  rfl

end

/-! ### The changes of station state (R94) -/

/-- The changes of station state, each with its cause (R94). -/
def stateChanges : List (Mode × Mode × Cause) :=
  [(.idle, .listen, .joined), (.listen, .syncing, .joined), (.listen, .synced, .founded), (.syncing, .synced, .transferDone),
    (.syncing, .synced, .wiped), (.syncing, .stranded, .attemptsExhausted), (.synced, .syncing, .behind),
    (.synced, .syncing, .missedFrame), (.stranded, .syncing, .syncedPeerHeard), (.stranded, .synced, .founded),
    (.listen, .idle, .left), (.syncing, .idle, .left), (.synced, .idle, .left), (.stranded, .idle, .left)]

/-- The station state keeps its name, or the change is one of the table's and its STATE_CHANGED is the last event posted, or lost
and counted. -/
def State.Reports (s t : State) : Prop :=
  t.sync.state.mode = s.sync.state.mode ∨
    ∃ cause, (s.sync.state.mode, t.sync.state.mode, cause) ∈ stateChanges ∧
      (t.port.events.getLast? = some (.stateChanged t.sync.state.mode cause) ∨
        16 ≤ t.port.events.length ∧ 1 ≤ t.port.lost)

section
variable {s t u : State}

theorem State.Reports.of_state (h : t.sync.state = s.sync.state) : s.Reports t := .inl (congrArg _ h)

theorem State.Reports.of_mirror (h : t.mirror = s.mirror) : s.Reports t := .of_state (congrArg Mirror.state h)

theorem State.Reports.refl (s : State) : s.Reports s := .of_state rfl

/-- What came before kept the name of the station state. -/
theorem State.Reports.after (h : t.Reports u) (hs : t.sync.state.mode = s.sync.state.mode) : s.Reports u := by
  rw [State.Reports, ← hs]; exact h

theorem State.Reports.ite {p : Prop} [Decidable p] (ht : p → s.Reports t) (hu : ¬ p → s.Reports u) :
    s.Reports (if p then t else u) := by
  split <;> [exact ht ‹_›; exact hu ‹_›]

/-- Filling the result buffer posts nothing. -/
theorem State.Reports.answer (h : s.Reports t) (st : Status) (bytes : List Byte) : s.Reports (t.answer st bytes) := h

/-- A change of the table, its event posted last. -/
theorem State.Reports.posted {m : Mode} {cause : Cause} (hm : t.sync.state.mode = m)
    (h : (s.sync.state.mode, m, cause) ∈ stateChanges) : s.Reports (t.post (.stateChanged m cause)) := by
  subst hm
  exact .inr ⟨cause, h, t.port.post_last _⟩

/-- Where the station goes IDLE, it leaves, or was IDLE before. -/
theorem State.reports_goIdle : s.Reports t.goIdle := by
  by_cases hs : s.sync.state = .idle
  · exact .of_state ((congrArg Mirror.state t.goIdle_mirror).trans hs.symm)
  · refine State.Reports.posted rfl ?_
    cases h : s.sync.state with
    | idle => exact absurd h hs
    | _ => simp [stateChanges, StationState.mode]

theorem State.reports_found (hl : s.sync.state.listens = true) : s.Reports s.found := by
  refine State.Reports.posted rfl ?_
  obtain hs | hs := (StationState.listens_iff _).mp hl <;> rw [hs] <;> decide

theorem State.reports_leaveSynced (hs : s.sync.state = .synced) {cause : Cause} (hc : cause = .behind ∨ cause = .missedFrame) :
    s.Reports (s.leaveSynced cause) := by
  refine State.Reports.posted rfl ?_
  obtain rfl | rfl := hc <;> rw [hs] <;> decide

section
variable {sub : SubState} {next : Segment} {attempts : Nat}

/-- A joiner's failed attempt strands it, or leaves it SYNCING (R116). -/
theorem State.reports_retry (hs : s.sync.state = .syncing sub next attempts) (next' : Segment) (attempts' : Nat) :
    s.Reports (s.retry next' attempts') := by
  refine .ite (fun _ => .inl (by rw [hs]; rfl)) fun _ => State.Reports.posted rfl ?_
  rw [hs]
  simp [stateChanges, StationState.mode]

theorem State.reports_loseTransfers (x : Station) : s.Reports (s.loseTransfers x) := by
  have served : (s.joinerLost x).mirror = s.mirror := by
    unfold State.joinerLost
    split <;> [exact State.mirror_ite (s.endServing_mirror _) rfl; rfl]
  rw [State.loseTransfers_parts]
  refine State.Reports.after ?_ (congrArg (fun m => m.state.mode) served)
  generalize s.joinerLost x = t
  unfold State.donorLost
  split
  · next hs => exact .ite (fun _ => State.reports_retry (s := t.post _) hs _ _) fun _ => .refl t
  · exact .refl t

end

/-! #### At the closes -/

/-- An UPDATE moves no station state. -/
theorem Mirror.counted_state (m : Mirror) (bytes : List Byte) : (m.counted bytes).state = m.state := by
  unfold Mirror.counted
  split <;> [split; split; skip] <;> rfl

/-- A joiner that takes an OFFER stays SYNCING. -/
theorem Mirror.offered_mode (m : Mirror) (number x j : Station) (k : Segment) :
    (m.offered number x j k).state.mode = m.state.mode := by
  unfold Mirror.offered
  split
  · next hs => split <;> [(rw [hs]; rfl); rfl]
  · rfl

theorem reports_actUpdate {cl : Closing} (h : cl.frame.kind = .update) : s.Reports (actUpdate cl s) := by
  have hm := congrArg Mirror.state (actUpdate_mirror cl s h)
  obtain ⟨x, own, f⟩ := cl
  obtain ⟨ticket, op, i, rfl⟩ := Frame.eq_update h
  exact .of_state (hm.trans ((Mirror.counted_state _ _).trans (Mirror.updated_state _ _ _ _)))

theorem reports_actSyncRequest {cl : Closing} (h : cl.frame.kind = .syncRequest) : s.Reports (actSyncRequest cl s) := by
  have hm := actSyncRequest_mirror cl s h
  obtain ⟨x, own, f⟩ := cl
  obtain ⟨k, rfl⟩ := Frame.eq_syncRequest h
  exact .of_mirror hm

theorem reports_actOffer {cl : Closing} (h : cl.frame.kind = .offer) : s.Reports (actOffer cl s) := by
  have hm := congrArg (fun m => m.state.mode) (actOffer_mirror cl s h)
  obtain ⟨x, own, f⟩ := cl
  obtain ⟨j, k, rfl⟩ := Frame.eq_offer h
  refine .inl (hm.trans ?_)
  cases own <;> [exact Mirror.offered_mode _ _ _ _ _; rfl]

theorem reports_actEvict {cl : Closing} : s.Reports (actEvict cl s) := by
  unfold actEvict
  split
  · next z _ =>
    have counted : ((s.hearEvidence.releaseClaims z).countFrame (evictFoldBytes cl.sender z)).mirror.state = s.sync.state := by
      rw [State.countFrame_mirror, Mirror.counted_state, State.releaseClaims_mirror, State.hearEvidence_mirror]
      rfl
    refine State.Reports.after ?_ (congrArg StationState.mode counted)
    exact .ite (fun _ => .of_state rfl) fun _ => (State.reports_loseTransfers z).after rfl
  · exact .refl s

/-- A WIPE ends SYNCING, its STATE_CHANGED after the WIPED (R90). -/
theorem reports_actWipe {cl : Closing} : s.Reports (actWipe cl s) := by
  unfold actWipe
  split
  · dsimp only
    split
    · next hs => exact .of_state (State.endServing_state _ _)
    · next hs =>
      refine State.Reports.posted rfl ?_
      rw [show s.sync.state = _ from hs]
      simp [stateChanges, StationState.mode]
    · exact .of_mirror (State.hearEvidence_mirror _)
  · exact .refl s

theorem State.reports_weighPresence (x : Station) (r : Option Reported) (c : Carried) : s.Reports (s.weighPresence x r c) := by
  have related (r' : Relation) : (s.setRelation x r').mirror = s.mirror := s.setRelation_mirror x r'
  unfold State.weighPresence
  split
  · next hs =>
    refine .ite (fun _ => ?_) fun _ => .of_mirror (related _)
    unfold State.compareWith
    split
    · exact State.reports_leaveSynced hs (.inl rfl)
    · exact .of_mirror (related _)
    · exact .of_mirror (related _)
  · exact .ite (fun _ => .of_mirror ((State.hearEvidence_mirror _).trans (related _)))
      fun _ => .of_mirror ((State.hearLower_mirror _ _ _).trans (related _))
  · next hs =>
    refine .ite (fun _ => State.Reports.posted rfl ?_) fun _ => .of_mirror ((State.hearLower_mirror _ _ _).trans (related _))
    rw [hs]
    decide
  · exact .of_mirror (related _)

theorem reports_actPresence {cl : Closing} : s.Reports (actPresence cl s) := by
  unfold actPresence
  split
  · refine .ite (fun _ => .of_state rfl) fun _ => ?_
    exact (State.reports_weighPresence _ _ _).after (congrArg (fun m => m.state.mode) (State.hearPeer_mirror _ _ _ _ _))
  · exact .refl s

/-- The last segment accepted ends SYNCING (R81). -/
theorem State.reports_acceptSegment {d : Station} {next : Segment} {attempts : Nat}
    (hs : s.sync.state = .syncing (.receiving d) next attempts) (k : Segment) (rs : Vector Rec 16) :
    s.Reports (s.acceptSegment d k rs attempts) := by
  unfold State.acceptSegment
  dsimp only
  split
  · exact .inl (by rw [hs]; rfl)
  · refine .ite (fun _ => State.Reports.posted rfl ?_) fun _ => .of_state rfl
    rw [hs]
    simp [stateChanges, StationState.mode]

theorem State.reports_receiveSegment (x j : Station) (k : Segment) (c : Carried) (rs : Vector Rec 16) :
    s.Reports (s.receiveSegment x j k c rs) := by
  unfold State.receiveSegment
  split
  · next hs =>
    refine .ite (fun _ => .ite (fun _ => ?_) fun _ => .ite (fun _ => ?_) fun _ => ?_) fun _ => .refl s
    · exact (State.reports_acceptSegment (s := { s with sync := { s.sync with position := positionOf c } }) hs k rs).after rfl
    · exact State.reports_acceptSegment hs k rs
    · exact (State.reports_retry (s := ((s.coverAll false).dropPosition).post _) hs 0 _).after rfl
  · exact .refl s

theorem reports_actSnapshot {cl : Closing} : s.Reports (actSnapshot cl s) := by
  have evidence := congrArg (fun m => m.state.mode) s.hearEvidence_mirror
  unfold actSnapshot
  split
  · exact .ite (fun _ => .of_mirror ((State.settleSegment_mirror _).trans s.hearEvidence_mirror))
      fun _ => (State.reports_receiveSegment _ _ _ _ _).after evidence
  · exact .refl s

/-- The acts of every close. -/
theorem reports_closeAct {k : Kind} {cl : Closing} (h : cl.frame.kind = k) : s.Reports (closeAct k cl s) := by
  cases k with
  | presence => exact reports_actPresence
  | update => exact reports_actUpdate h
  | wipe => exact reports_actWipe
  | evict => exact reports_actEvict
  | syncRequest => exact reports_actSyncRequest h
  | offer => exact reports_actOffer h
  | snapshot => exact reports_actSnapshot

/-- A deferred leave is reported last, whatever the close has changed before it (R93). -/
theorem State.Reports.afterOwnClose (h : s.Reports t) (own : Bool) : s.Reports (t.afterOwnClose own) :=
  .ite (fun _ => State.reports_goIdle) fun _ => h

/-- The levels keep the station state. -/
theorem State.heard_reports {line : Levels} {event : LineEvent} (hu : s.heard line = some (event, u)) (h : u.Reports t) :
    s.Reports t := h.after (congrArg StationState.mode (State.heard_state hu))

theorem exec_closeOf_reports {k : Kind} {line : Levels} (h : exec (closeOf k line) s = .next t) : s.Reports t := by
  cases h.symm.trans (exec_closeOf_act s k line)
  obtain h | ⟨cl, u, hcl, hk, ⟨-, h⟩ | ⟨-, h⟩⟩ := s.closeCommitted_cases line k (closeAct k) <;> rw [h]
  · exact .refl s
  · exact State.heard_reports (State.closing_heard hcl).1 (.of_state rfl)
  · have closed : u.Reports (closeAct k cl (u.closeMatched cl)) := (reports_closeAct hk).after rfl
    exact State.heard_reports (State.closing_heard hcl).1 (closed.afterOwnClose cl.own)

/-! #### At the commands -/

theorem State.reports_joinSession (hs : s.sync.state = .idle) : s.Reports s.joinSession := by
  refine State.Reports.posted (m := .listen) rfl ?_
  rw [hs]
  decide

theorem exec_join_reports (h : exec .join s = .next t) : s.Reports t := by
  cases h
  refine .ite (fun _ => ?_) fun _ => .refl s
  dsimp only
  split
  · exact .of_state rfl
  · unfold joinReply
    split
    · exact .of_state rfl
    · next hs =>
      rw [ne_eq, not_not] at hs
      exact .answer (State.reports_joinSession hs) _ _

theorem State.reports_endListenWindow : s.Reports s.endListenWindow := by
  unfold State.endListenWindow
  split
  · next hs => exact .ite (fun _ => .posted rfl (by rw [hs]; decide)) fun _ => State.reports_found (by rw [hs]; rfl)
  · next hs => exact .ite (fun _ => .of_state rfl) fun _ => State.reports_found (by rw [hs]; rfl)
  · exact .refl s

theorem exec_listenTimerExpiry_reports (h : exec .listenTimerExpiry s = .next t) : s.Reports t := by
  cases h
  exact .ite (fun _ => State.reports_endListenWindow) fun _ => .refl s

theorem State.reports_expireWatch (x : Station) : s.Reports (s.expireWatch x) := by
  have missed (misses : Nat) : s.Reports (s.missPeer x misses) :=
    .ite (fun _ => .of_state rfl) fun _ => (State.reports_loseTransfers x).after rfl
  unfold State.expireWatch
  split
  · exact .refl s
  · exact (State.reports_loseTransfers x).after rfl
  · exact missed _
  · exact missed _

/-- The expiries that may fail a joiner's attempt. -/
theorem exec_expiry_reports {c : Instr} (hc : c = .offerTimerExpiry ∨ c = .segmentTimerExpiry ∨ ∃ x, c = .watchTimerExpiry x)
    (h : exec c s = .next t) : s.Reports t := by
  obtain rfl | rfl | ⟨x, rfl⟩ := hc <;> cases h
  · refine .ite (fun _ => ?_) fun _ => .refl s
    split <;> [exact State.reports_retry ‹_› _ _; exact .refl s]
  · refine .ite (fun _ => ?_) fun _ => .refl s
    split
    · next hs => exact (State.reports_retry (s := s.post _) hs _ _).after rfl
    · exact .refl s
  · exact .ite (fun _ => State.reports_expireWatch x) fun _ => .refl s

/-- An act aside from the line, by how it moves the mirror: none takes a station into IDLE or out of SYNCED, and each other
move has its command. -/
theorem State.Aside.reports {c : Instr} (a : s.Aside t) (h : exec c s = .next t)
    (hreset : ∀ sn br low, c ≠ .hardReset sn br low) : s.Reports t := by
  have toIdle (ht : t.sync.state = .idle) : s.Reports t := .of_state (ht.trans (a.acts.idle.mp ht).symm)
  have move := exec_mirror h
  generalize hm : t.mirror = m at move
  cases move with
  | kept => exact .of_mirror hm
  | left => exact toIdle (congrArg Mirror.state hm)
  | reset => exact absurd rfl (hreset _ _ _)
  | cleared => exact .of_state (congrArg Mirror.state hm)
  | joined => exact exec_join_reports h
  | closed => exact exec_closeOf_reports h
  | closedAndLeft => exact exec_closeOf_reports h
  | missedFrame _ synced => cases (a.synced synced).symm.trans (congrArg Mirror.state hm)
  | listened => exact exec_listenTimerExpiry_reports h
  | founded => exact exec_listenTimerExpiry_reports h
  | attempted expiry => exact exec_expiry_reports expiry h

/-- Every command but a hard reset reports the change of station state that it brings about. -/
theorem exec_reports {c : Instr} (h : exec c s = .next t) (hreset : ∀ sn br low, c ≠ .hardReset sn br low) : s.Reports t := by
  cases exec_execMove h with
  | aside a => exact a.reports h hreset
  | reset => exact absurd rfl (hreset _ _ _)
  | joined => exact exec_join_reports h
  | left =>
    rw [← State.goIdle_eq]
    exact .answer State.reports_goIdle _ _
  | leavePends => exact .of_state rfl
  | follows => exact .of_state rfl
  | offered heard => exact State.heard_reports heard (.of_mirror (State.offer_mirror _))
  | lost heard own h =>
    cases h.symm.trans (exec_lostArbitration heard own)
    rw [← State.goIdle_eq]
    exact State.heard_reports heard (.ite (fun _ => State.reports_goIdle) fun _ => .of_state rfl)
  | spoiled heard => exact State.heard_reports heard (.of_state rfl)
  | @lostPlace line u how heard =>
    rw [State.losePlace_eq]
    refine State.heard_reports heard (.ite (fun hs => ?_) fun _ => .of_state rfl)
    exact (State.reports_leaveSynced (s := u.outOfStep how) hs (.inr rfl)).after rfl
  | regained heard => exact State.heard_reports heard (.of_mirror (State.regain_mirror _ _))
  | ended heard => exact State.heard_reports heard (.of_state rfl)
  | @badClosed line r rejecting u hears =>
    refine State.heard_reports hears.1 (.ite (fun _ => .of_state rfl) fun _ => .ite (fun hs => ?_) fun _ => .of_state rfl)
    exact (State.reports_leaveSynced hs.1 (.inr rfl)).after rfl
  | discardedReceived hears => exact State.heard_reports hears.1 (.of_state rfl)
  | @discardedOwn line o u sends =>
    refine State.heard_reports sends.1 (State.Reports.afterOwnClose (.of_state ?_) true)
    rw [State.spoilCounted_sync, (State.settleDiscarded_keeps _ _).2.2, State.afterDiscarded_sync]
  | committedReceived => exact exec_closeOf_reports h
  | committedOwn => exact exec_closeOf_reports h

end

end Sys2Proof.Machine

namespace Sys2Proof

open Machine

/-! ### The statements -/

/-- Settles O10: the reply in IDLE and elsewhere, and the port's own test during the start-up clear. -/
theorem joinBeginsSession : Obligations.JoinBeginsSession := by
  intro s hp
  exact ⟨fun hs => congrArg Host.Outcome.next (State.takeCommand_starting hp hs 0 joinReply),
    fun hs hi => exec_join ⟨hp, hs⟩ (joinReply_refused hi), fun hs hi => exec_join ⟨hp, hs⟩ (joinReply_joins hi)⟩

/-- Settles O20: the reply in the order of its tests. -/
theorem wipeCommandSetsWipePending : Obligations.WipeCommandSetsWipePending := by
  intro s hr
  exact ⟨fun h => exec_wipe hr (wipeReply_refused h), fun hs hl hw => exec_wipe hr (wipeReply_busy hs hl hw),
    fun hs hl hw => ⟨_, exec_wipe hr (wipeReply_accepted hs hl hw)⟩⟩

/-- Settles O39: the end of the window by the station state and its two flags. -/
theorem listenTimerExpiryEndsWindow : Obligations.ListenTimerExpiryEndsWindow := by
  intro s ht
  rw [exec_listenTimerExpiry ht]
  exact ⟨fun hs hf => congrArg _ (State.endListenWindow_requests hs hf),
    fun hs hf => congrArg _ (State.endListenWindow_restarts hs hf),
    fun hs he hl => congrArg _ (State.endListenWindow_founds hs he hl)⟩

/-- Settles O40: the presence timer's firing, and a joiner's failed attempt at the other two. -/
theorem presenceOfferAndSegmentTimers : Obligations.PresenceOfferAndSegmentTimers := by
  intro s
  refine ⟨fun ht => ?_, fun next attempts ht hs => ?_, fun d next attempts ht hs => ?_⟩ <;>
    rw [← Option.isSome_iff_ne_none] at ht
  · exact congrArg Host.Outcome.next (if_pos ht)
  · exact (congrArg Host.Outcome.next (if_pos ht)).trans (by rw [hs]; exact congrArg _ (s.retry_eq next attempts))
  · exact (congrArg Host.Outcome.next (if_pos ht)).trans (by rw [hs]; exact congrArg _ (State.retry_eq _ next attempts))

/-- Settles O41: an ARRIVING entry goes; a PRESENT or FADING one counts a miss, and fades or is dropped. -/
theorem watchTimerExpiryFadesPeer : Obligations.WatchTimerExpiryFadesPeer := by
  intro s x hx ht p misses absent
  rw [exec_watchTimerExpiry hx ht]
  refine ⟨fun hp => congrArg _ (State.expireWatch_arriving hp), fun hp => ?_⟩
  rw [State.expireWatch_misses hp]
  exact ⟨fun hm => congrArg _ (State.missPeer_fades hm), fun hm => congrArg _ (State.missPeer_drops hm)⟩

/-- Settles O56: the order is that of the first test that tells apart, and each test is antisymmetric. -/
theorem positionOrderDecidesEveryPair : Obligations.PositionOrderDecidesEveryPair := by
  intro a b later higher
  refine ⟨?_, comparePositions_equal, comparePositions_swap⟩
  rw [comparePositions_ahead, laterGeneration_iff, higherCount_iff]
  exact Iff.rfl

/-- Settles O25: the commands of the loss and of the regaining, and each level read between frames, out of step and before the
placed end of a frame. -/
theorem placeIsLostAndStepRegained : Obligations.PlaceIsLostAndStepRegained := by
  refine ⟨fun s u line => ⟨fun how h => ⟨runAfterLoss how, fun hs => ?_, fun hs => ?_⟩, exec_regainStep, exec_regainStep⟩,
    fun e bus b hd => ⟨fun hc hi => ?_, fun hc hi => ?_, fun r closes rejecting hc ht => ?_⟩⟩
  · exact (exec_lostPlace h).trans (congrArg _ (if_neg hs))
  · exact (exec_lostPlace h).trans (congrArg _ (if_pos hs))
  · rw [BusInterface.hear_idle hc hi]
    refine ⟨?_, ?_, ?_, ?_⟩ <;> rintro rfl
    · rfl
    · exact fun hr => BusInterface.hearIdle_startBit hr
    · exact fun hr ht => (BusInterface.hearIdle_early hr).trans (if_pos ht)
    · exact fun hr ht => (BusInterface.hearIdle_early hr).trans (if_neg (by simp [ht]))
  · rw [BusInterface.hear_outOfStep hc hi]
    refine ⟨?_, ?_, ?_⟩ <;> rintro rfl
    · rfl
    · exact BusInterface.hearOutOfStep_startBit
    · exact BusInterface.hearOutOfStep_early
  · rw [BusInterface.hear_fields hc ht]
    exact ⟨fun hr => by rw [if_neg (Nat.not_le_of_lt hr), ← hd], fun hr => by rw [if_pos hr]⟩

/-- Settles O22: the frame chosen, source by source, and what driving it does. -/
theorem offerPointOffersFirstPendingFrame : Obligations.OfferPointOffersFirstPendingFrame := by
  intro s u line h position offers
  have chosen : u.choose = offers.findSome? id := by
    rw [State.choose_eq, State.pendingRequest_map, State.sendableHead_map, State.presenceFrame_eq]
    simp only [offers, findSome?_id_cons, List.findSome?_nil, Option.or_none]
    rfl
  rw [exec_offerPoint h]
  refine ⟨fun hs => congrArg _ (if_pos hs), fun hs ho => ?_, fun hs ho => ?_⟩
  · exact congrArg _ ((if_neg hs).trans (if_pos ho))
  · rw [State.offer_chooses hs ho, chosen]
    cases offers.findSome? id with
    | none => rfl
    | some f => exact congrArg _ (State.drive_eq f)

/-- Settles O33: the peer entry first, then the sync controller by its state and by what the PRESENCE reports. -/
theorem presenceCloseMovesPeerThenController : Obligations.PresenceCloseMovesPeerThenController := by
  intro s u line x st iv c h hx own p up heard lower
  have hx : x ≠ u.afterReceived.number := hx
  have close {t : State} (ht : (heard p.relation).weighPresence x (reportedOf st) c = t) :
      exec (.presenceClose line) s = .next t :=
    exec_presenceReceived h ((congrArg (State.weighPresence · x (reportedOf st) c) (State.hearPeer_eq hx)).trans ht)
  have related (r : Relation) : (heard p.relation).setRelation x r = heard r := State.setRelation_peerHeard hx
  have sync (r : Relation) : (heard r).sync = u.sync := State.peerHeard_sync
  have synced (hst : st = 3) : reportedOf st = some .synced := (reportedOf_eq_synced st).mpr hst
  have other (hst : st ≠ 3) : reportedOf st ≠ some .synced := mt (reportedOf_eq_synced st).mp hst
  have compared (r : Relation) {result : Comparison} (hc : comparePositions c own = result) :
      comparePositions c (heard r).sync.position.carried = result := by rw [sync]; exact hc
  have state (r : Relation) : (heard r).sync.state = u.sync.state := congrArg SyncController.state (sync r)
  have listening (hs : u.sync.state = .listen ∨ u.sync.state = .stranded) (hst : st ≠ 3) :
      exec (.presenceClose line) s = .next ((heard .unknown).hearLower x (reportedOf st)) :=
    close (by rw [State.weighPresence_starter (by rwa [state]) (other hst), related])
  have starter : x < (heard .unknown).number ∧
      (reportedOf st = some .listen ∨ reportedOf st = some .syncing ∨ reportedOf st = some .stranded) ↔ lower := by
    rw [reportedOf_starter, State.number, show (heard .unknown).straps = u.straps from State.peerHeard_straps]
  refine ⟨fun hs hst hc => close ?_, fun hs hst hc => close ?_, fun hs hst hc => close ?_, fun hs hst => close ?_,
    fun sub next attempts hs => close ?_, fun hs hst => close ?_, fun hs hst => close ?_, fun hs hst hl => ?_,
    fun hs hst hl => ?_⟩
  · rw [synced hst, State.weighPresence_ahead ((state _).trans hs) (compared _ hc)]
  · rw [synced hst, State.weighPresence_behind ((state _).trans hs) (compared _ hc), related]
  · rw [synced hst, State.weighPresence_equal ((state _).trans hs) (compared _ hc), related]
  · rw [State.weighPresence_uncompared (.inl ⟨(state _).trans hs, other hst⟩), related]
  · rw [State.weighPresence_uncompared (.inr ⟨sub, next, attempts, (state _).trans hs⟩), related]
  · rw [synced hst, State.weighPresence_rescued ((state _).trans hs), related]
  · rw [synced hst, State.weighPresence_evidence ((state _).trans hs), related,
      State.hearEvidence_listens (by rw [state, hs]; rfl), sync]
  · rw [listening hs hst, State.hearLower, if_pos (starter.mpr hl), sync]
  · rw [listening hs hst, State.hearLower, if_neg (mt starter.mp hl)]

/-- Settles O36: the own OFFER, and another station's by the station state. -/
theorem offerCloseNamesDonor : Obligations.OfferCloseNamesDonor := by
  intro s u line j k
  refine ⟨exec_offerSent, fun x h => ?_⟩
  intro slot
  have withdrawn (hl : u.sync.state.listens = false) :
      exec (.offerClose line) s = .next
        (State.takeOffer { u.afterReceived with sync := { u.sync with offer := slot } } x j k) := by
    rw [exec_offerReceived h, State.hearEvidence_other (s := u.afterReceived) hl, State.withdrawOffer_eq]
    rfl
  refine ⟨fun next attempts hs => ⟨?_, fun hne => ?_⟩, fun ho => ?_, fun hl => ?_⟩
  · rintro hj rfl
    rw [withdrawn (by rw [hs]; rfl)]
    exact congrArg _ (State.takeOffer_taken (s := { u.afterReceived with sync := _ }) hs hj)
  · rw [withdrawn (by rw [hs]; rfl)]
    refine congrArg _ (State.takeOffer_other fun next' attempts' hs' => ?_)
    cases hs.symm.trans hs'
    exact fun ⟨hj, hk⟩ => hne.elim (absurd hj) (absurd hk)
  · have hn : u.sync.state.listens = false := by obtain hs | ⟨_, _, _, hs⟩ := ho <;> rw [hs] <;> rfl
    rw [withdrawn hn]
    refine congrArg _ (State.takeOffer_other fun next attempts hs => ?_)
    obtain ho | ⟨_, _, _, ho⟩ := ho <;> cases ho.symm.trans hs
  · rw [exec_offerReceived h, State.hearEvidence_listens (s := u.afterReceived) ((StationState.listens_iff _).mpr hl),
      State.withdrawOffer_eq]
    refine congrArg _ (State.takeOffer_other fun next attempts hs => ?_)
    obtain ho | ho := hl <;> cases ho.symm.trans hs

/-- Settles O12: the blocks close the own frame alike with leave-pending set and clear, and with it set the leave follows. -/
theorem leaveWaitsForTheOwnClose : Obligations.LeaveWaitsForTheOwnClose := by
  rintro s u line o c h hl rfl
  have pending : (u.ownClosed o).sync.leavePending = true := by
    rw [State.ownClosed_leavePending, State.heard_keeps h.1]
    exact hl
  refine ⟨(u.ownClosed o).withLeave false, ?_, ?_⟩
  · refine (exec_ownClose (State.sendsFrame_withLeave h false)).trans ?_
    rw [State.ownClosed_withLeave, State.afterOwnClose_eq (.inr rfl)]
  · rw [exec_ownClose h, State.afterOwnClose, pending, State.goIdle_eq, State.nowIdle_withLeave]
    rfl

/-- Settles O53: the moves aside from the line by what they do to the mirror, and the others one by one. -/
theorem stateChangesArePostedWithTheirCause : Obligations.StateChangesArePostedWithTheirCause := by
  intro c s t h hreset changed
  exact (exec_reports h hreset).resolve_left changed

end Sys2Proof

/-! ## Catch-up transfers: the close of a SYNC_REQUEST

The laws first, in the order of the model; the statement follows at the end. -/

namespace Sys2Proof.Machine

/-! ### SYNC_REQUEST at its requester (R99) -/

theorem State.requestSent_pending {s : State} {next : Segment} {attempts : Nat}
    (hs : s.sync.state = .syncing .requesting next attempts) (hr : s.sync.syncRequest = true) :
    s.requestSent =
      { s with
        sync := { s.sync with syncRequest := false, offerTimer := some s.port.inEffect.presenceInterval } } := by
  simp only [State.requestSent, hs, hr, if_true]

/-- SYNC_REQUEST_CLOSE of the own pending request: the requester waits for an OFFER. -/
theorem exec_syncRequestSent {s u : State} {line : Levels} {x : Station} {k next : Segment} {attempts : Nat}
    (h : s.takesClose line true x (.syncRequest k) u) (hs : u.sync.state = .syncing .requesting next attempts)
    (hr : u.sync.syncRequest = true) :
    exec (.syncRequestClose line) s = .next
      { u.afterSent (.syncRequest k) with
        sync := { u.sync with syncRequest := false, offerTimer := some u.port.inEffect.presenceInterval } } :=
  congrArg Host.Outcome.next (State.closeCommitted_eq (act := actSyncRequest) h
    (State.requestSent_pending (s := u.afterSent (.syncRequest k)) hs hr) fun _ => rfl)

/-! ### SYNC_REQUEST at a donor (R102, R107) -/

/-- A transfer served to `j` ends, since `j` has requested again (R107): the first part of `State.answerRequest`. -/
def State.reRequested (s : State) (j : Station) : State :=
  match s.sync.donor with
  | some d => if d.joiner = j then s.endServing .reRequested else s
  | none   => s

section
variable {s : State} {j : Station} {k : Segment}

theorem State.reRequested_serving {d : DonorRecord} (hd : s.sync.donor = some d) (hj : d.joiner = j) :
    s.reRequested j = State.post { s with sync := { s.sync with donor := none } } (.donorEnded j .reRequested) := by
  simp only [State.reRequested, State.endServing, hd, hj, if_true]

theorem State.reRequested_other (h : ∀ d, s.sync.donor = some d → d.joiner ≠ j) : s.reRequested j = s := by
  unfold State.reRequested
  split
  · next d hd => exact if_neg (h d hd)
  · rfl

/-- Whether the station serves `j` decides whether a transfer ends. -/
theorem State.reRequested_eq {served : Bool} (h : served = true ↔ ∃ d, s.sync.donor = some d ∧ d.joiner = j) :
    s.reRequested j =
      if served then State.post { s with sync := { s.sync with donor := none } } (.donorEnded j .reRequested) else s := by
  cases served with
  | true =>
    obtain ⟨d, hd, hj⟩ := h.mp rfl
    exact State.reRequested_serving hd hj
  | false => exact State.reRequested_other fun d hd hj => Bool.false_ne_true (h.mpr ⟨d, hd, hj⟩)

/-- The end of a transfer touches nothing that the donor's answer depends on but the donor record. -/
theorem State.reRequested_keeps (s : State) (j : Station) :
    (s.reRequested j).sync.offer = s.sync.offer ∧ (s.reRequested j).straps = s.straps ∧
      (s.reRequested j).port.inEffect = s.port.inEffect := by
  by_cases h : ∃ d, s.sync.donor = some d ∧ d.joiner = j
  · obtain ⟨d, hd, hj⟩ := h
    simp [State.reRequested_serving hd hj]
  · rw [State.reRequested_other fun d hd hj => h ⟨d, hd, hj⟩]
    exact ⟨rfl, rfl, rfl⟩

theorem State.answerRequest_unsynced (hs : s.sync.state ≠ .synced) : s.answerRequest j k = s := if_neg hs

theorem State.answerRequest_synced (hs : s.sync.state = .synced) :
    s.answerRequest j k =
      if s.port.inEffect.donorEnable ∧ (s.reRequested j).sync.donor = none ∧ j ≠ s.number then
        { s.reRequested j with
          sync := { (s.reRequested j).sync with offer := some (offerFor s.sync.offer j k) } }
      else s.reRequested j := by
  obtain ⟨offer, straps, inEffect⟩ := s.reRequested_keeps j
  rw [← offer, ← inEffect, State.number, ← straps]
  exact if_pos hs

/-- SYNC_REQUEST_CLOSE of another station's frame is the donor's answer. -/
theorem exec_syncRequestReceived {u : State} {line : Levels} (h : s.takesClose line false j (.syncRequest k) u) :
    exec (.syncRequestClose line) s = .next (u.afterReceived.answerRequest j k) :=
  congrArg Host.Outcome.next (State.closeCommitted_eq h rfl nofun)

end

end Sys2Proof.Machine

namespace Sys2Proof

open Machine

/-! ### The statement -/

/-- Settles O35: the own request starts the offer timer; another station's is answered by a SYNCED station alone, which first ends
the transfer it serves to the requester, and then acts on its offer slot if it is free to serve. -/
theorem syncRequestCloseSetsOffer : Obligations.SyncRequestCloseSetsOffer := by
  intro s u line k
  refine ⟨fun next attempts => exec_syncRequestSent, fun j h => ?_⟩
  intro served s₁
  have serving : served = true ↔ ∃ d, u.sync.donor = some d ∧ d.joiner = j := by
    simp only [served]
    cases u.sync.donor <;> simp
  have ended : u.afterReceived.reRequested j = s₁ := State.reRequested_eq (s := u.afterReceived) serving
  have answered (hs : u.sync.state = .synced) := State.answerRequest_synced (s := u.afterReceived) (j := j) (k := k) hs
  rw [exec_syncRequestReceived h]
  rw [ended] at answered
  clear_value s₁
  refine ⟨fun hs => congrArg _ (State.answerRequest_unsynced hs), fun hs => ⟨fun hno => ?_, fun he hd hj => ?_⟩⟩
  · refine congrArg _ ((answered hs).trans (if_neg fun ⟨he, hd, hj⟩ => ?_))
    obtain off | busy | own := hno
    · exact Bool.false_ne_true (off.symm.trans he)
    · exact busy hd
    · exact hj own
  · rw [answered hs, if_pos ⟨he, hd, hj⟩, State.afterReceived_sync]
    cases u.sync.offer with
    | none => rfl
    | some o => rw [offerFor, apply_ite some]

end Sys2Proof

/-! ## Bus access: the runs that inserted and fill bits break, the spoil streak, and the win streak with the sit-out flag

The laws first, in the order of the model; the statements follow at the end. -/

namespace Sys2Proof.Machine

/-! ### Runs of one level (R142, R150) -/

/-- No run of `level` in the levels is longer than `most`, where `run` of them stand before the levels begin. -/
def RunsWithin (level : Bool) (most : Nat) (run : Nat) : Levels → Prop
  | []        => run ≤ most
  | b :: line => run ≤ most ∧ RunsWithin level most (if b = level then run + 1 else 0) line

section
variable {level : Bool} {most run : Nat} {line : Levels}

/-- What follows some of the levels begins after a run of its own. -/
theorem RunsWithin.suffix (before : Levels) (h : RunsWithin level most run (before ++ line)) :
    ∃ run', RunsWithin level most run' line := by
  induction before generalizing run with
  | nil => exact ⟨run, h⟩
  | cons b before ih => exact ih h.2

/-- Equal levels lengthen the run that stands before them. -/
theorem RunsWithin.replicate_le {n : Nat} (h : RunsWithin level most run (List.replicate n level ++ line)) : run + n ≤ most := by
  induction n generalizing run with
  | zero => cases line <;> [exact h; exact h.1]
  | succ n ih =>
    have longer := h.2
    rw [if_pos rfl] at longer
    have := ih longer
    omega

/-- So no run beyond the limit stands anywhere in the levels. -/
theorem RunsWithin.no_longer_run (h : RunsWithin level most run line) : ¬ List.replicate (most + 1) level <:+: line := by
  rintro ⟨before, after, rfl⟩
  rw [List.append_assoc] at h
  obtain ⟨run', h⟩ := h.suffix
  have := h.replicate_le
  omega

end

/-! #### Inserted bits (R142) -/

/-- The bits of one level that stand in a run: its count, or none. -/
def Run.countOf (r : Run) (level : Bool) : Nat := if r.level = level then r.count else 0

theorem Run.countOf_le {r : Run} (h : r.Sound) (level : Bool) : r.countOf level ≤ 6 := by
  unfold Run.countOf
  split <;> [exact h.atMost; exact Nat.zero_le _]

/-- One more bit lengthens the run of its own level and ends that of the other. -/
theorem Run.countOf_push (r : Run) (b level : Bool) :
    (r.push b).countOf level = if b = level then r.countOf level + 1 else 0 := by
  unfold Run.push Run.countOf
  by_cases hb : b = r.level
  · simp only [hb, if_true]
    split <;> rfl
  · simp only [if_neg hb]
    split
    · next hl => rw [if_neg fun h => hb (hl.trans h.symm)]
    · rfl

/-- A bit driven after a sound run, and what follows it. -/
theorem RunsWithin.push {r : Run} {level b : Bool} {line : Levels} (h : r.Sound)
    (rest : RunsWithin level 6 ((r.push b).countOf level) line) : RunsWithin level 6 (r.countOf level) (b :: line) :=
  ⟨Run.countOf_le h level, Run.countOf_push r b level ▸ rest⟩

/-- The bit that a sender inserts is one more bit, of the opposite level. -/
theorem Run.push_opposite (r : Run) : r.push (!r.level) = r.inserted := by
  rw [Run.push, if_neg (by simp)]
  rfl

/-- The sender drives no more than six equal bits in a row, those already sent included. -/
theorem stuff_runsWithin {r : Run} (h : r.Sound) (level : Bool) (bits : Levels) :
    RunsWithin level 6 (r.countOf level) (stuff r bits) := by
  induction bits generalizing r with
  | nil => exact Run.countOf_le h level
  | cons b bits ih =>
    have rest := ih (Run.next_sound h b)
    rw [stuff_cons]
    unfold Run.next at rest ⊢
    split
    · next six =>
      rw [if_pos six] at rest
      refine .push h ?_
      rw [Run.push_opposite]
      exact .push (Run.inserted_sound h) rest
    · next six =>
      rw [if_neg six] at rest
      exact .push h rest

/-! #### Fill bits (R150) -/

theorem fillBits_length (run : Nat) (others : Levels) : (fillBits run others).length = others.length := by
  induction others generalizing run with
  | nil => rfl
  | cons o others ih => exact congrArg Nat.succ (ih _)

/-- The fill bit makes the line dominant after ten recessive bits, whatever the others drive. -/
theorem fillBits_runsWithin {run : Nat} (h : run ≤ 10) (others : Levels) :
    RunsWithin true 10 run (List.zipWith (· && ·) (fillBits run others) others) := by
  induction others generalizing run with
  | nil => exact h
  | cons o others ih =>
    refine ⟨h, ?_⟩
    by_cases ten : run = 10
    · subst ten
      exact ih (Nat.zero_le 10)
    · have counted : fillNext run o = if o = true then run + 1 else 0 := if_neg ten
      simp only [fillLevel, ten, ne_eq, not_false_eq_true, decide_true, Bool.true_and]
      rw [← counted]
      refine ih ?_
      rw [counted]
      split <;> omega

/-! ### The tally of the streaks

Few commands touch the spoil streak, the transmit selector or a NUMBER_CLASH. So these are followed by themselves, as a `Tally`: the
acts of the blocks keep it, and `exec_counts` says once which commands can move it. -/

/-- What R151 and R154 count: the spoil streak, the win streak with the sit-out flag, and the NUMBER_CLASH events in the queue. -/
structure Tally where
  spoilStreak : Nat
  selector    : TransmitSelector
  clashes     : Nat

def State.tally (s : State) : Tally := ⟨s.bus.spoilStreak, s.selector, s.port.events.count .numberClash⟩

theorem State.tally_spoilStreak (s : State) : s.tally.spoilStreak = s.bus.spoilStreak := rfl

/-- Both branches of a choice leave the same tally. -/
theorem State.tally_ite {p : Prop} [Decidable p] {a b : State} {y : Tally} (ha : a.tally = y) (hb : b.tally = y) :
    (if p then a else b).tally = y := by
  split <;> assumption

/-! #### Acts that keep the tally -/

section
variable (s : State)

/-- Any other event posted is no clash. -/
theorem HostPort.post_count {p : HostPort} {e : Event} (he : e ≠ .numberClash) :
    (p.post e).events.count .numberClash = p.events.count .numberClash := by
  unfold HostPort.post
  split
  · simp [he]
  · rfl

theorem State.post_tally {e : Event} (he : e ≠ .numberClash) : (s.post e).tally = s.tally :=
  congrArg (Tally.mk _ _) (HostPort.post_count he)

theorem State.noteChange_tally (i : Index) (x : Station) : (s.noteChange i x).tally = s.tally := by
  obtain h | ⟨_, _, _, h⟩ | ⟨_, _, _, h⟩ := s.noteChange_cases i x <;> rw [h] <;> simp [State.tally]

theorem State.hearEvidence_tally : s.hearEvidence.tally = s.tally := by
  unfold State.hearEvidence; split <;> rfl

theorem State.countFrame_tally (bytes : List Byte) : (s.countFrame bytes).tally = s.tally := by
  unfold State.countFrame; split <;> [exact State.tally_ite rfl rfl; exact State.tally_ite rfl rfl; rfl]

theorem State.applyEvaluation_tally (cl : Closing) (i : Index) (out : Option (Result × Rec)) :
    (s.applyEvaluation cl i out).tally = s.tally := by
  unfold State.applyEvaluation
  split <;> [rfl; exact State.tally_ite (State.noteChange_tally _ _ _) rfl]

theorem State.settleHead_tally (r : Result) (v : Half) : (s.settleHead r v).tally = s.tally := by
  unfold State.settleHead; split <;> rfl

theorem State.settleEvaluation_tally (cl : Closing) (out : Option (Result × Rec)) :
    (s.settleEvaluation cl out).tally = s.tally := by
  unfold State.settleEvaluation
  split <;> [rfl; exact State.tally_ite (s.settleHead_tally _ _) rfl]

theorem State.failHead_tally : s.failHead.tally = s.tally := by
  unfold State.failHead
  split
  · rfl
  · refine State.tally_ite rfl ?_
    split <;> [rfl; exact State.post_tally _ nofun]

theorem State.endServing_tally (why : EndReason) : (s.endServing why).tally = s.tally := by
  unfold State.endServing; split <;> [rfl; exact State.post_tally _ nofun]

/-- The events of a change of station state hold no clash. -/
theorem State.servingEnds_noClash (why : EndReason) (m : Mode) (cause : Cause) :
    .numberClash ∉ s.servingEnds why ++ [.stateChanged m cause] := by
  unfold State.servingEnds; split <;> simp

theorem State.postAll_tally {es : List Event} (h : .numberClash ∉ es) : (s.postAll es).tally = s.tally := by
  induction es generalizing s with
  | nil => rfl
  | cons e es ih =>
    rw [List.mem_cons, not_or] at h
    obtain ⟨he, hes⟩ := h
    exact (ih (s.post e) hes).trans (s.post_tally (Ne.symm he))

theorem State.leaveSynced_tally (cause : Cause) : (s.leaveSynced cause).tally = s.tally := by
  rw [State.leaveSynced_eq, State.outOfSynced, State.postAll_tally _ (s.servingEnds_noClash _ _ _)]
  rfl

theorem State.found_tally : s.found.tally = s.tally := State.post_tally _ nofun

theorem State.retry_tally (next : Segment) (attempts : Nat) : (s.retry next attempts).tally = s.tally :=
  State.tally_ite rfl (State.post_tally _ nofun)

/-- The part of a lost transfer that the donor's joiner loses, and the part that a joiner's donor loses. -/
theorem State.loseTransfers_tally (x : Station) : (s.loseTransfers x).tally = s.tally := by
  have joiner : (s.joinerLost x).tally = s.tally := by
    unfold State.joinerLost
    split <;> [exact State.tally_ite (s.endServing_tally _) rfl; rfl]
  have donor (t : State) : (t.donorLost x).tally = t.tally := by
    unfold State.donorLost
    split
    · exact State.tally_ite ((State.retry_tally _ _ _).trans (t.post_tally nofun)) rfl
    · rfl
  rw [State.loseTransfers_parts]
  exact (donor _).trans joiner

theorem State.evictPeer_tally (z x : Station) : (s.evictPeer z x).tally = s.tally :=
  State.tally_ite (s.post_tally nofun) ((State.loseTransfers_tally _ z).trans (State.post_tally _ nofun))

theorem State.hearPeer_tally (x : Station) (state interval : Byte) (c : Carried) :
    (s.hearPeer x state interval c).tally = s.tally :=
  State.tally_ite rfl (State.tally_ite (State.post_tally _ nofun) rfl)

theorem State.setRelation_tally (x : Station) (r : Relation) : (s.setRelation x r).tally = s.tally :=
  State.tally_ite rfl rfl

theorem State.hearLower_tally (x : Station) (r : Option Reported) : (s.hearLower x r).tally = s.tally :=
  State.tally_ite rfl rfl

theorem State.weighPresence_tally (x : Station) (r : Option Reported) (c : Carried) :
    (s.weighPresence x r c).tally = s.tally := by
  have related (r : Relation) := s.setRelation_tally x r
  unfold State.weighPresence
  split
  · refine State.tally_ite ?_ (related _)
    unfold State.compareWith
    split <;> [exact s.leaveSynced_tally _; exact related _; exact related _]
  · exact (State.tally_ite (State.hearEvidence_tally _) (State.hearLower_tally _ _ _)).trans (related .unknown)
  · refine (State.tally_ite ?_ (State.hearLower_tally _ _ _)).trans (related .unknown)
    exact State.post_tally _ (e := .stateChanged .syncing .syncedPeerHeard) nofun
  · exact related _

theorem State.answerRequest_tally (j : Station) (k : Segment) : (s.answerRequest j k).tally = s.tally := by
  have ended : (s.reRequested j).tally = s.tally := by
    unfold State.reRequested
    split <;> [exact State.tally_ite (s.endServing_tally _) rfl; rfl]
  by_cases hs : s.sync.state = .synced
  · rw [State.answerRequest_synced hs]
    exact State.tally_ite ended ended
  · rw [State.answerRequest_unsynced hs]

theorem State.requestSent_tally : s.requestSent.tally = s.tally := by
  unfold State.requestSent; split <;> [exact State.tally_ite rfl rfl; rfl]

theorem State.withdrawOffer_tally (j : Station) : (s.withdrawOffer j).tally = s.tally := by
  unfold State.withdrawOffer; split <;> [exact State.tally_ite rfl rfl; rfl]

theorem State.takeOffer_tally (x j : Station) (k : Segment) : (s.takeOffer x j k).tally = s.tally := by
  unfold State.takeOffer; split <;> [exact State.tally_ite rfl rfl; rfl]

theorem State.settleSegment_tally : s.settleSegment.tally = s.tally := by
  unfold State.settleSegment; split <;> [rfl; (split <;> [rfl; exact s.endServing_tally _])]

theorem State.failSegment_tally : s.failSegment.tally = s.tally := by
  unfold State.failSegment; split <;> [rfl; exact State.tally_ite rfl (s.endServing_tally _)]

theorem State.acceptSegment_tally (d : Station) (k : Segment) (rs : Vector Rec 16) (attempts : Nat) :
    (s.acceptSegment d k rs attempts).tally = s.tally := by
  unfold State.acceptSegment
  dsimp only
  split <;> [rfl; exact State.tally_ite (State.post_tally _ nofun) rfl]

theorem State.restartTransfer_tally (attempts : Nat) : (s.restartTransfer attempts).tally = s.tally :=
  (State.retry_tally _ _ _).trans (State.post_tally _ nofun)

theorem State.receiveSegment_tally (x j : Station) (k : Segment) (c : Carried) (rs : Vector Rec 16) :
    (s.receiveSegment x j k c rs).tally = s.tally := by
  unfold State.receiveSegment
  split
  · refine State.tally_ite (State.tally_ite ?_ (State.tally_ite ?_ ?_)) rfl
    · exact State.acceptSegment_tally _ _ _ _ _
    · exact State.acceptSegment_tally _ _ _ _ _
    · exact s.restartTransfer_tally _
  · rfl

theorem actPresence_tally (cl : Closing) : (actPresence cl s).tally = s.tally := by
  unfold actPresence
  split
  · exact State.tally_ite rfl ((State.weighPresence_tally _ _ _ _).trans (s.hearPeer_tally _ _ _ _))
  · rfl

theorem actUpdate_tally (cl : Closing) : (actUpdate cl s).tally = s.tally := by
  unfold actUpdate
  split
  · refine (State.settleEvaluation_tally _ _ _).trans ((State.countFrame_tally _ _).trans ?_)
    exact (State.applyEvaluation_tally _ _ _ _).trans s.hearEvidence_tally
  · rfl

theorem actWipe_tally (cl : Closing) : (actWipe cl s).tally = s.tally := by
  unfold actWipe
  split
  · next g _ =>
    dsimp only
    split
    · exact (State.post_tally _ (e := .wiped cl.sender g) nofun).trans (State.endServing_tally _ _)
    · refine (State.post_tally _ (e := .stateChanged .synced .wiped) nofun).trans ?_
      exact State.post_tally _ (e := .wiped cl.sender g) nofun
    · exact State.hearEvidence_tally _
  · rfl

theorem actEvict_tally (cl : Closing) : (actEvict cl s).tally = s.tally := by
  unfold actEvict
  split
  · exact (State.evictPeer_tally _ _ _).trans ((State.countFrame_tally _ _).trans s.hearEvidence_tally)
  · rfl

theorem actSyncRequest_tally (cl : Closing) : (actSyncRequest cl s).tally = s.tally := by
  unfold actSyncRequest
  split <;> [exact State.tally_ite s.requestSent_tally (s.answerRequest_tally _ _); rfl]

theorem actOffer_tally (cl : Closing) : (actOffer cl s).tally = s.tally := by
  have heard := s.hearEvidence_tally
  unfold actOffer
  split
  · refine State.tally_ite ((State.tally_ite rfl rfl : (s.hearEvidence.beginServing _ _).tally = _).trans heard) ?_
    exact (State.takeOffer_tally _ _ _ _).trans ((State.withdrawOffer_tally _ _).trans heard)
  · rfl

theorem actSnapshot_tally (cl : Closing) : (actSnapshot cl s).tally = s.tally := by
  have heard := s.hearEvidence_tally
  unfold actSnapshot
  split
  · exact State.tally_ite ((State.settleSegment_tally _).trans heard) ((State.receiveSegment_tally _ _ _ _ _ _).trans heard)
  · rfl

/-- The acts of every close keep the tally: the bus interface and the selector have moved before them. -/
theorem closeAct_tally (k : Kind) (cl : Closing) : (closeAct k cl s).tally = s.tally := by
  cases k with
  | presence => exact actPresence_tally s cl
  | update => exact actUpdate_tally s cl
  | wipe => exact actWipe_tally s cl
  | evict => exact actEvict_tally s cl
  | syncRequest => exact actSyncRequest_tally s cl
  | offer => exact actOffer_tally s cl
  | snapshot => exact actSnapshot_tally s cl

theorem State.settleDiscarded_tally (f : Frame) : (s.settleDiscarded f).tally = s.tally := by
  cases f with
  | update => exact s.failHead_tally
  | snapshot => exact s.failSegment_tally
  | _ => rfl

theorem State.regain_tally (how : StepGain) : (s.regain how).tally = s.tally := by
  cases how <;> rfl

theorem State.expireWatch_tally (x : Station) : (s.expireWatch x).tally = s.tally := by
  have missed (misses : Nat) : (s.missPeer x misses).tally = s.tally :=
    State.tally_ite rfl ((State.loseTransfers_tally _ x).trans (State.post_tally _ nofun))
  unfold State.expireWatch
  split
  · rfl
  · exact State.loseTransfers_tally _ x
  · exact missed _
  · exact missed _

theorem State.endListenWindow_tally : s.endListenWindow.tally = s.tally := by
  unfold State.endListenWindow
  split
  · exact State.tally_ite (State.post_tally _ nofun) s.found_tally
  · exact State.tally_ite rfl s.found_tally
  · rfl

/-- The levels of the line keep the tally. -/
theorem State.heard_tally {s u : State} {line : Levels} {event : LineEvent} (h : s.heard line = some (event, u)) :
    u.tally = s.tally := by
  obtain ⟨hu, -, -, -, hs, -⟩ := State.heard_bus h
  rw [hu, State.tally, hs]
  rfl

end

/-! ### What a command can do to the streaks (R151, R154) -/

/-- The commands that the tables of R151 and R154 name, each where it is taken. -/
inductive State.StreakEvent (s : State) : Instr → Prop
  | reset {sn : BitVec 4} {br : BitVec 2} {low : Bool} : s.StreakEvent (.hardReset sn br low)
  | joined (ready : s.hostReady) (idle : s.sync.state = .idle) : s.StreakEvent .join
  | left (ready : s.hostReady) (active : s.sync.state ≠ .idle) (unpending : s.sync.leavePending = false)
      (free : s.ownInFlight = false) : s.StreakEvent .leave
  | offered {line : Levels} {u : State} (heard : s.heard line = some (.offerPoint, u)) : s.StreakEvent (.offerPoint line)
  | lost {line : Levels} {u : State} {o : OwnFrame} (heard : s.heard line = some (.lostArbitration, u))
      (own : u.bus.current = .own o) : s.StreakEvent (.lostArbitration line)
  | lostPlace {line : Levels} {how : PlaceLoss} {u : State} (heard : s.heard line = some (.lostPlace how, u)) :
      s.StreakEvent (.lostPlace line)
  | received {c : Instr} (closes : s.intactClose c ∨ ∃ rejecting, s.badFrameCloses c rejecting) : s.StreakEvent c
  | own {c : Instr} {f : Frame} (closes : s.matchedOwnClose c f ∨ s.spoiledOwnClose c f) : s.StreakEvent c

/-- The streaks and the sit-out flag stand, and no NUMBER_CLASH has joined the queue. -/
structure State.Stands (s t : State) : Prop where
  spoilStreak : t.bus.spoilStreak = s.bus.spoilStreak
  selector    : t.selector = s.selector
  clashes     : t.port.events.count .numberClash ≤ s.port.events.count .numberClash

/-- The tables name the command, or it leaves the streaks. -/
def State.Counts (s : State) (c : Instr) (t : State) : Prop := s.StreakEvent c ∨ s.Stands t

section
variable {s t u : State} {c : Instr}

theorem State.Stands.of_tally (h : t.tally = s.tally) : s.Stands t :=
  ⟨congrArg Tally.spoilStreak h, congrArg Tally.selector h, Nat.le_of_eq (congrArg Tally.clashes h)⟩

theorem State.Stands.refl (s : State) : s.Stands s := .of_tally rfl

/-- The host takes events from the queue, or none. -/
theorem State.Stands.of_sublist (hb : t.bus = s.bus) (hs : t.selector = s.selector)
    (he : t.port.events.Sublist s.port.events) : s.Stands t :=
  ⟨congrArg _ hb, hs, he.count_le _⟩

theorem State.Counts.kept : s.Counts c s := .inr (.refl s)

theorem State.Counts.of_tally (h : t.tally = s.tally) : s.Counts c t := .inr (.of_tally h)

theorem State.Counts.heard {line : Levels} {event : LineEvent} (hu : s.heard line = some (event, u)) (h : t.tally = u.tally) :
    s.Counts c t := .of_tally (h.trans (State.heard_tally hu))

theorem State.Counts.ite {p : Prop} [Decidable p] (ht : p → s.Counts c t) (hu : ¬ p → s.Counts c u) :
    s.Counts c (if p then t else u) := by
  split <;> [exact ht ‹_›; exact hu ‹_›]

/-- A host command counts as its own action does where the port is ready, and not at all elsewhere. -/
theorem State.takeCommand_counts {act : State → Reply} (n : Nat) (h : s.hostReady → s.Counts c (act s).state) :
    s.Counts c (s.takeCommand n act) := by
  by_cases hp : s.port.phase = .command
  · cases hs : s.port.starting with
    | true => rw [State.takeCommand_starting hp hs]; exact .of_tally rfl
    | false =>
      rw [State.takeCommand_ready ⟨hp, hs⟩]
      exact (h ⟨hp, hs⟩).imp id fun h => ⟨h.spoilStreak, h.selector, h.clashes⟩
  · rw [State.takeCommand_outside hp]; exact .kept

theorem changeReply_tally (op : Op) (i : Index) : (changeReply op i s).state.tally = s.tally := by
  obtain h | ⟨_, _, h⟩ := changeReply_cases op i s
  · rw [h]
  · rw [h]; rfl

theorem configureReply_tally (o : ConfigOperands) : (configureReply o s).state.tally = s.tally := by
  unfold configureReply; split <;> [rfl; (split <;> rfl)]

theorem setInterruptsReply_tally (events completions : Byte) : (setInterruptsReply events completions s).state.tally = s.tally := by
  unfold setInterruptsReply; split <;> [rfl; (split <;> rfl)]

theorem wipeReply_tally : (wipeReply s).state.tally = s.tally := by
  unfold wipeReply; split <;> [rfl; (split <;> rfl)]

theorem resumeReply_tally : (resumeReply s).state.tally = s.tally := by
  unfold resumeReply; split <;> rfl

theorem discardHeadReply_tally : (discardHeadReply s).state.tally = s.tally := by
  unfold discardHeadReply; split <;> rfl

theorem takeCompletionReply_tally : (takeCompletionReply s).state.tally = s.tally := by
  unfold takeCompletionReply; split <;> rfl

theorem readPeerReply_tally (number : Byte) : (readPeerReply number s).state.tally = s.tally := by
  unfold readPeerReply; split <;> rfl

theorem takeEventReply_stands : s.Stands (takeEventReply s).state := by
  unfold takeEventReply
  split
  · exact .of_tally rfl
  · next e rest h =>
    have fewer : rest.Sublist s.port.events := h ▸ List.sublist_cons_self e rest
    cases e <;> exact .of_sublist rfl rfl fewer

theorem joinReply_counts (ready : s.hostReady) : s.Counts .join (joinReply s).state := by
  by_cases hs : s.sync.state = .idle
  · exact .inl (.joined ready hs)
  · rw [joinReply_refused hs]; exact .kept

theorem leaveReply_counts (ready : s.hostReady) : s.Counts .leave (leaveReply s).state := by
  by_cases hs : s.sync.state = .idle
  · rw [leaveReply_idle hs]; exact .kept
  cases hl : s.sync.leavePending with
  | true => rw [leaveReply_busy hs hl]; exact .kept
  | false =>
    cases ho : s.ownInFlight with
    | true => rw [leaveReply_inFlight hs hl ho]; exact .of_tally rfl
    | false => exact .inl (.left ready hs hl ho)

/-- The own frame closes, its readback matched or spoiled. -/
theorem State.StreakEvent.of_sends {line : Levels} {o : OwnFrame} (sends : s.sendsFrame line o u)
    (hc : c = if o.spoil.isSome ∨ o.rejected then .discardedClose line else closeOf o.frame.kind line) : s.StreakEvent c := by
  refine .own (f := o.frame) ?_
  cases hs : o.spoil with
  | none => exact .inl ⟨line, o, u, sends, rfl, hs, by simpa [hs] using hc⟩
  | some n => exact .inr ⟨line, o, u, sends, rfl, by rw [hs]; rfl, by simpa [hs] using hc⟩

/-- The close of a committed frame, its own or another's; without a close here the frame only ends. -/
theorem exec_closeOf_counts {k : Kind} {line : Levels} (h : exec (closeOf k line) s = .next t) : s.Counts (closeOf k line) t := by
  obtain rfl := Host.Outcome.next.inj ((exec_closeOf_act s k line).symm.trans h)
  obtain h' | ⟨cl, u, hcl, rfl, ⟨-, h'⟩ | ⟨hh, -⟩⟩ := s.closeCommitted_cases line k (closeAct k)
  · rw [h']; exact .kept
  · rw [h']; exact .heard (State.closing_heard hcl).1 rfl
  · obtain ⟨x, f, r, rejecting, rfl, hears, hr⟩ | ⟨o, rfl, sends, hs, hr⟩ := State.closing_committed_cases hcl hh
    · exact .inl (.received (.inl ⟨line, r, rejecting, u, hears, .inl ⟨x, f, hr, rfl⟩⟩))
    · exact .inl (.of_sends sends (by simp [hs, hr]))

theorem exec_discardedClose_counts {line : Levels} (h : exec (.discardedClose line) s = .next t) :
    s.Counts (.discardedClose line) t := by
  obtain rfl := Host.Outcome.next.inj h
  split
  · next cl spoiled u hcl =>
    refine .ite (fun hh => .inl ?_) fun _ => .heard (State.closing_heard hcl).1 rfl
    obtain ⟨r, rejecting, hears, hr⟩ | ⟨o, sends, hd⟩ := State.closing_discarded hcl hh
    · exact .received (.inl ⟨line, r, rejecting, u, hears, .inr ⟨hr, rfl⟩⟩)
    · exact .of_sends sends (by rw [if_pos hd])
  · exact .kept

theorem exec_badFrameClose_counts {line : Levels} (h : exec (.badFrameClose line) s = .next t) :
    s.Counts (.badFrameClose line) t := by
  obtain rfl := Host.Outcome.next.inj h
  split
  · next rejecting u hcl =>
    refine .ite (fun hh => .inl ?_) fun _ => .heard (State.closing_heard hcl).1 rfl
    obtain ⟨r, hears, hb⟩ := State.closing_bad hcl hh
    exact .received (.inr ⟨rejecting, line, r, u, hears, hb, rfl⟩)
  · exact .kept

/-- Every command that the tables do not name leaves the streaks. -/
theorem exec_counts (h : exec c s = .next t) : s.Counts c t := by
  have change {op : Op} {i : Index} (hc : IsChange c op i) : s.Counts c t := by
    obtain rfl := Host.Outcome.next.inj ((hc.exec s).symm.trans h)
    exact State.takeCommand_counts 1 fun _ => .of_tally (changeReply_tally op i)
  cases c
  case write i v => exact change (.inl ⟨v, rfl, rfl⟩)
  case cswap i e v => exact change (.inr (.inl ⟨e, v, rfl, rfl⟩))
  case claim i => exact change (.inr (.inr (.inl ⟨rfl, rfl⟩)))
  case release i => exact change (.inr (.inr (.inr ⟨rfl, rfl⟩)))
  case hardReset => exact .inl .reset
  case updateClose line => exact exec_closeOf_counts (k := .update) h
  case evictClose line => exact exec_closeOf_counts (k := .evict) h
  case wipeClose line => exact exec_closeOf_counts (k := .wipe) h
  case presenceClose line => exact exec_closeOf_counts (k := .presence) h
  case syncRequestClose line => exact exec_closeOf_counts (k := .syncRequest) h
  case offerClose line => exact exec_closeOf_counts (k := .offer) h
  case snapshotClose line => exact exec_closeOf_counts (k := .snapshot) h
  case discardedClose line => exact exec_discardedClose_counts h
  case badFrameClose line => exact exec_badFrameClose_counts h
  all_goals obtain rfl := Host.Outcome.next.inj h
  case startUpClearComplete => exact .of_tally (State.tally_ite rfl rfl)
  case transactionStart line =>
    refine .ite (fun _ => ?_) fun _ => .kept
    cases hf : s.bus.follow s.ear line with
    | none => exact .of_tally rfl
    | some bus => exact .inr ⟨(BusInterface.follow_keeps hf).2.1, rfl, Nat.le_refl _⟩
  case transactionTruncated =>
    split <;> [exact .of_tally (State.tally_ite rfl rfl); exact .of_tally rfl; exact .kept]
  case transactionEnd => split <;> exact .of_tally rfl
  case status => exact .of_tally (State.tally_ite rfl rfl)
  case configure => exact State.takeCommand_counts _ fun _ => .of_tally (configureReply_tally _)
  case join => exact State.takeCommand_counts _ joinReply_counts
  case leave => exact State.takeCommand_counts _ leaveReply_counts
  case readRecord => exact State.takeCommand_counts _ fun _ => .kept
  case wipe => exact State.takeCommand_counts _ fun _ => .of_tally wipeReply_tally
  case resume => exact State.takeCommand_counts _ fun _ => .of_tally resumeReply_tally
  case discardHead => exact State.takeCommand_counts _ fun _ => .of_tally discardHeadReply_tally
  case takeCompletion => exact State.takeCommand_counts _ fun _ => .of_tally takeCompletionReply_tally
  case takeEvent => exact State.takeCommand_counts _ fun _ => .inr takeEventReply_stands
  case readPeer => exact State.takeCommand_counts _ fun _ => .of_tally (readPeerReply_tally _)
  case watch => exact State.takeCommand_counts _ fun _ => .of_tally rfl
  case unwatch =>
    exact State.takeCommand_counts _ fun _ => .inr (.of_sublist rfl rfl List.filter_sublist)
  case setInterrupts => exact State.takeCommand_counts _ fun _ => .of_tally (setInterruptsReply_tally _ _)
  case badCommand => exact .ite (fun _ => .kept) fun _ => State.takeCommand_counts _ fun _ => .kept
  case offerPoint =>
    split
    · next u hu => exact .inl (.offered hu)
    · exact .kept
  case lostArbitration =>
    split
    · next u hu => split <;> [exact .inl (.lost hu ‹_›); exact .kept]
    · exact .kept
  case spoiledFrame =>
    split
    · next u hu => split <;> [exact .heard hu rfl; exact .kept]
    · exact .kept
  case lostPlace =>
    split
    · next how u hu => exact .inl (.lostPlace hu)
    · exact .kept
  case regainStep =>
    split
    · next how u hu => exact .heard hu (u.regain_tally how)
    · exact .kept
  case listenTimerExpiry => exact .of_tally (State.tally_ite s.endListenWindow_tally rfl)
  case presenceTimer => exact .of_tally (State.tally_ite rfl rfl)
  case offerTimerExpiry =>
    refine .of_tally (State.tally_ite ?_ rfl)
    split <;> [exact s.retry_tally _ _; rfl]
  case segmentTimerExpiry =>
    refine .of_tally (State.tally_ite ?_ rfl)
    split <;> [exact (State.retry_tally _ _ _).trans (s.post_tally nofun); rfl]
  case watchTimerExpiry x => exact .of_tally (State.tally_ite (s.expireWatch_tally x) rfl)

end

/-! ### What the commands of the tables do (R151, R154) -/

/-- The win streak set to 0, the sit-out flag kept. -/
def Tally.unwon (y : Tally) : Tally := { y with selector := { y.selector with winStreak := 0 } }

/-- The transmit selector as JOIN and going IDLE leave it. -/
def Tally.sessionOver (y : Tally) : Tally := { y with selector := { winStreak := 0, sitOut := false } }

section
variable {s t u : State} {c : Instr} {line : Levels}

theorem exec_hardReset_tally {sn : BitVec 4} {br : BitVec 2} {low : Bool} (hx : exec (.hardReset sn br low) s = .next t) :
    t.tally = ⟨0, { winStreak := 0, sitOut := false }, 0⟩ := by
  obtain rfl := Host.Outcome.next.inj hx
  rfl

theorem exec_join_tally (ready : s.hostReady) (idle : s.sync.state = .idle) (hx : exec .join s = .next t) :
    t.tally = { s.tally.sessionOver with spoilStreak := 0 } := by
  obtain rfl := Host.Outcome.next.inj ((exec_join ready (joinReply_joins idle)).symm.trans hx)
  have joined : s.joinSession.tally = { s.tally.sessionOver with spoilStreak := 0 } :=
    State.post_tally _ (e := .stateChanged .listen .joined) nofun
  exact joined

theorem State.nowIdle_tally (s : State) : s.nowIdle.tally = s.tally.sessionOver :=
  State.postAll_tally _ (s.servingEnds_noClash _ _ _)

theorem State.nowIdle_state (s : State) : s.nowIdle.sync.state = .idle := by
  rw [State.nowIdle, State.postAll_eq]

/-- LEAVE where nothing is in flight: the station goes IDLE at once. -/
theorem exec_leave_tally (ready : s.hostReady) (active : s.sync.state ≠ .idle) (unpending : s.sync.leavePending = false)
    (free : s.ownInFlight = false) (hx : exec .leave s = .next t) : t.tally = s.tally.sessionOver ∧ t.sync.state = .idle := by
  obtain rfl := Host.Outcome.next.inj ((exec_leave ready (leaveReply_leaves active unpending free)).symm.trans hx)
  exact ⟨s.nowIdle_tally, s.nowIdle_state⟩

/-- An offer point uses the sit-out flag up, and touches no streak (R155). -/
theorem exec_offerPoint_tally (hu : s.heard line = some (.offerPoint, u)) (hx : exec (.offerPoint line) s = .next t) :
    t.tally = s.tally ∨
      s.selector.sitOut = true ∧ t.tally = { s.tally with selector := { s.selector with sitOut := false } } := by
  obtain rfl := Host.Outcome.next.inj ((exec_offerPoint hu).symm.trans hx)
  rw [← State.heard_tally hu, show s.selector = u.selector from congrArg Tally.selector (State.heard_tally hu).symm]
  unfold State.offer
  split <;> [skip; (split <;> [skip; split])]
  · exact .inl rfl
  · next sits => exact .inr ⟨sits, rfl⟩
  · next f _ => left; cases f <;> rfl
  · exact .inl rfl

/-- A lost arbitration, with the leave that was waiting (R93). -/
theorem exec_lostArbitration_tally {o : OwnFrame} (hu : s.heard line = some (.lostArbitration, u)) (ho : u.bus.current = .own o)
    (hx : exec (.lostArbitration line) s = .next t) :
    t.tally = s.tally.unwon ∨ t.tally = s.tally.sessionOver ∧ t.sync.state = .idle := by
  obtain rfl := Host.Outcome.next.inj ((exec_lostArbitration hu ho).symm.trans hx)
  have lost : State.tally { u with bus := u.bus.loseArbitration o u.number, selector := { u.selector with winStreak := 0 } }
      = s.tally.unwon := by
    rw [← State.heard_tally hu]
    unfold BusInterface.loseArbitration
    split <;> rfl
  split
  · rw [State.nowIdle_tally, lost]
    exact .inr ⟨rfl, State.nowIdle_state _⟩
  · exact .inl lost

theorem exec_lostPlace_tally {how : PlaceLoss} (hu : s.heard line = some (.lostPlace how, u))
    (hx : exec (.lostPlace line) s = .next t) : t.tally = s.tally.unwon := by
  obtain rfl := Host.Outcome.next.inj ((exec_lostPlace hu).symm.trans hx)
  rw [← State.leaveSynced_eq, ← State.heard_tally hu]
  exact State.tally_ite ((u.outOfStep how).leaveSynced_tally _) rfl

theorem State.badClose_tally (s : State) (rejecting : Bool) : (s.badClose rejecting).tally = s.tally.unwon := by
  cases rejecting with
  | true => rfl
  | false => exact State.tally_ite (s.afterBad.leaveSynced_tally _) rfl

/-- The close of another station's frame, intact or bad. -/
theorem exec_received_tally (h : s.intactClose c ∨ ∃ rejecting, s.badFrameCloses c rejecting) (hx : exec c s = .next t) :
    t.tally = s.tally.unwon := by
  obtain ⟨line, r, rejecting, u, hears, ⟨x, f, hc, rfl⟩ | ⟨hd, rfl⟩⟩ | ⟨rejecting, line, r, u, hears, hb, rfl⟩ := h <;>
    rw [← State.heard_tally hears.1]
  · have taken : s.takesClose line false x f u := ⟨r, rejecting, hears, hc⟩
    obtain rfl := Host.Outcome.next.inj ((exec_closeOf_act s f.kind line).symm.trans hx)
    rw [State.closeCommitted_eq taken rfl nofun]
    exact closeAct_tally _ _ _
  · obtain rfl := Host.Outcome.next.inj ((exec_discardedReceived hears hd).symm.trans hx)
    rfl
  · obtain rfl := Host.Outcome.next.inj ((exec_badFrameClose hears hb).symm.trans hx)
    exact u.badClose_tally rejecting

/-! #### The own frame -/

theorem State.afterOwnClose_tally (s : State) :
    (s.afterOwnClose true).tally = if s.sync.leavePending then s.tally.sessionOver else s.tally := by
  unfold State.afterOwnClose
  rw [State.goIdle_eq, Bool.true_and]
  split <;> [exact s.nowIdle_tally; rfl]

/-- A deferred leave moves the selector alone. -/
theorem State.afterOwnClose_counts (s : State) :
    (s.afterOwnClose true).bus.spoilStreak = s.bus.spoilStreak ∧ (s.afterOwnClose true).tally.clashes = s.tally.clashes := by
  rw [← State.tally_spoilStreak, State.afterOwnClose_tally]
  split <;> exact ⟨rfl, rfl⟩

theorem State.ownClosed_matched (s : State) {o : OwnFrame} (hs : o.spoil = none) :
    (s.ownClosed o).tally = ⟨0, s.selector.afterOwn o.frame.kind s.port.inEffect.yieldN, s.tally.clashes⟩ := by
  unfold State.ownClosed
  rw [hs, Option.isSome_none, State.spoilCounted_false]
  exact State.tally_ite (State.settleDiscarded_tally _ _) (closeAct_tally _ _ _)

theorem exec_matchedOwn_tally {f : Frame} (h : s.matchedOwnClose c f) (hx : exec c s = .next t) :
    t.tally =
      let y : Tally := ⟨0, s.selector.afterOwn f.kind s.port.inEffect.yieldN, s.tally.clashes⟩
      if s.sync.leavePending then y.sessionOver else y := by
  obtain ⟨line, o, u, sends, rfl, hs, rfl⟩ := h
  have close := exec_ownClose sends
  simp only [hs, Option.isSome_none, Bool.false_eq_true, false_or] at close
  obtain rfl := Host.Outcome.next.inj (close.symm.trans hx)
  rw [State.afterOwnClose_tally, State.ownClosed_leavePending, State.ownClosed_matched _ hs, State.heard_keeps sends.1]
  rfl

/-- Reaching 3, the spoil streak posts NUMBER_CLASH. -/
theorem State.spoilCounted_clash (h : s.bus.spoilStreak = 2) :
    s.spoilCounted true = State.post { s with bus := { s.bus with spoilStreak := 3 } } .numberClash := by
  simp [State.spoilCounted, h]

/-- Elsewhere it rises below 3, and nothing is posted. -/
theorem State.spoilCounted_tally (h : s.bus.spoilStreak ≠ 2) :
    (s.spoilCounted true).tally =
      { s.tally with spoilStreak := if s.bus.spoilStreak < 3 then s.bus.spoilStreak + 1 else s.bus.spoilStreak } := by
  by_cases h3 : s.bus.spoilStreak < 3
  · simp [State.spoilCounted, h, h3, Nat.not_le_of_lt h3, State.tally]
  · simp [State.spoilCounted, h3, Nat.le_of_not_lt h3, State.tally]

theorem State.spoilCounted_spoilStreak (s : State) :
    (s.spoilCounted true).bus.spoilStreak = if s.bus.spoilStreak < 3 then s.bus.spoilStreak + 1 else s.bus.spoilStreak := by
  by_cases h : s.bus.spoilStreak = 2
  · rw [State.spoilCounted_clash h, h]; rfl
  · exact congrArg Tally.spoilStreak (State.spoilCounted_tally h)

theorem State.spoilCounted_selector (s : State) : (s.spoilCounted true).selector = s.selector := by
  by_cases h : s.bus.spoilStreak = 2
  · rw [State.spoilCounted_clash h]; rfl
  · exact congrArg Tally.selector (State.spoilCounted_tally h)

/-- The own spoiled close: the frame's class moves the selector and its source settles, then the spoil streak counts, then a deferred
leave. -/
theorem exec_spoiledOwn {f : Frame} (h : s.spoiledOwnClose c f) (hx : exec c s = .next t) :
    ∃ v : State, v.tally = { s.tally with selector := s.selector.afterOwn f.kind s.port.inEffect.yieldN } ∧
      v.sync.leavePending = s.sync.leavePending ∧ t = (v.spoilCounted true).afterOwnClose true := by
  obtain ⟨line, o, u, sends, rfl, hs, rfl⟩ := h
  obtain rfl := Host.Outcome.next.inj ((exec_discardedOwn sends (.inl hs)).symm.trans hx)
  rw [hs]
  refine ⟨(u.afterDiscarded o.frame true).settleDiscarded o.frame, ?_, ?_, rfl⟩
  · rw [State.settleDiscarded_tally, ← State.heard_tally sends.1, State.heard_keeps sends.1]
    rfl
  · rw [(State.settleDiscarded_keeps _ _).2.1, State.afterDiscarded_sync, State.heard_keeps sends.1]

theorem exec_spoiledOwn_spoilStreak {f : Frame} (h : s.spoiledOwnClose c f) (hx : exec c s = .next t) :
    t.bus.spoilStreak = if s.bus.spoilStreak < 3 then s.bus.spoilStreak + 1 else s.bus.spoilStreak := by
  obtain ⟨v, hv, -, rfl⟩ := exec_spoiledOwn h hx
  rw [(v.spoilCounted true).afterOwnClose_counts.1, v.spoilCounted_spoilStreak,
    show v.bus.spoilStreak = s.bus.spoilStreak from congrArg Tally.spoilStreak hv]

theorem exec_spoiledOwn_clashes {f : Frame} (h : s.spoiledOwnClose c f) (hn : s.bus.spoilStreak ≠ 2) (hx : exec c s = .next t) :
    t.tally.clashes = s.tally.clashes := by
  obtain ⟨v, hv, -, rfl⟩ := exec_spoiledOwn h hx
  have below : v.bus.spoilStreak ≠ 2 := fun h2 => hn ((congrArg Tally.spoilStreak hv).symm.trans h2)
  rw [(v.spoilCounted true).afterOwnClose_counts.2, State.spoilCounted_tally below, hv]

/-- On reaching 3 NUMBER_CLASH is the last event posted, or it is lost and counted. -/
theorem exec_spoiledOwn_posts {f : Frame} (h : s.spoiledOwnClose c f) (h2 : s.bus.spoilStreak = 2)
    (hl : s.sync.leavePending = false) (hx : exec c s = .next t) :
    t.port.events.getLast? = some .numberClash ∨ 16 ≤ t.port.events.length ∧ 1 ≤ t.port.lost := by
  obtain ⟨v, hv, hvl, rfl⟩ := exec_spoiledOwn h hx
  rw [State.afterOwnClose_eq (.inr (by rw [State.spoilCounted_sync, hvl, hl])),
    State.spoilCounted_clash ((congrArg Tally.spoilStreak hv).trans h2)]
  exact HostPort.post_last _ _

/-- The own close moves the selector by the frame's class, matched or spoiled (R154). -/
theorem exec_ownClose_selector {f : Frame} (h : s.matchedOwnClose c f ∨ s.spoiledOwnClose c f) (hl : s.sync.leavePending = false)
    (hx : exec c s = .next t) : t.selector = s.selector.afterOwn f.kind s.port.inEffect.yieldN := by
  obtain h | h := h
  · have matched := exec_matchedOwn_tally h hx
    rw [hl] at matched
    exact congrArg Tally.selector matched
  · obtain ⟨v, hv, hvl, rfl⟩ := exec_spoiledOwn h hx
    rw [State.afterOwnClose_eq (.inr (by rw [State.spoilCounted_sync, hvl, hl])), State.spoilCounted_selector]
    exact congrArg Tally.selector hv

theorem TransmitSelector.afterOwn_low (y : TransmitSelector) {k : Kind} (hu : k ≠ .update) (hs : k ≠ .snapshot) (n : Nat) :
    y.afterOwn k n = y := by
  refine if_pos ?_
  cases k with
  | update => exact absurd rfl hu
  | snapshot => exact absurd rfl hs
  | _ => decide

theorem TransmitSelector.afterOwn_high (y : TransmitSelector) {k : Kind} (h : k = .update ∨ k = .snapshot) (n : Nat) :
    y.afterOwn k n =
      if n = 0 then { y with winStreak := 0 }
      else if n ≤ y.winStreak + 1 then { winStreak := 0, sitOut := true }
      else { y with winStreak := y.winStreak + 1 } := by
  obtain rfl | rfl := h <;> rfl

end

/-! #### Going IDLE (R92, R93) -/

section
variable {s t : State} {c : Instr}

/-- The acts of a close take no station to IDLE. -/
theorem closeAct_toIdle {cl : Closing} (h : (closeAct cl.frame.kind cl s).sync.state = .idle) : s.sync.state = .idle := by
  cases hk : cl.frame.kind <;> rw [hk] at h
  case update =>
    have moved := congrArg Mirror.state (actUpdate_mirror cl s hk)
    obtain ⟨ticket, op, i, hf⟩ := Frame.eq_update hk
    rw [Mirror.close, hf] at moved
    exact ((Mirror.counted_state _ _).trans (Mirror.updated_state _ _ _ _)).symm.trans (moved.symm.trans h)
  case presence => exact (acts_actPresence cl).idle.mp h
  case wipe => exact (acts_actWipe cl).idle.mp h
  case evict => exact (acts_actEvict cl).idle.mp h
  case syncRequest => exact (acts_actSyncRequest cl).idle.mp h
  case offer => exact (acts_actOffer cl).idle.mp h
  case snapshot => exact (acts_actSnapshot cl).idle.mp h

/-- The blocks take no station to IDLE at the close of its own frame. -/
theorem State.ownClosed_toIdle {o : OwnFrame} (h : (s.ownClosed o).sync.state = .idle) : s.sync.state = .idle := by
  unfold State.ownClosed at h
  split at h
  · rwa [State.spoilCounted_sync, (State.settleDiscarded_keeps _ _).2.2, State.afterDiscarded_sync] at h
  · exact closeAct_toIdle (cl := ⟨s.number, true, o.frame⟩) (s := s.afterSent o.frame) h

/-- The deferred leave alone takes a station to IDLE at the close of its own frame (R93). -/
theorem exec_ownClose_toIdle {line : Levels} {o : OwnFrame} {u : State} (sends : s.sendsFrame line o u)
    (hc : c = if o.spoil.isSome ∨ o.rejected then .discardedClose line else closeOf o.frame.kind line)
    (hx : exec c s = .next t) (ht : t.sync.state = .idle) : t.selector = { winStreak := 0, sitOut := false } := by
  subst hc
  obtain rfl := Host.Outcome.next.inj ((exec_ownClose sends).symm.trans hx)
  have left := (u.ownClosed o).afterOwnClose_tally
  split at left
  · exact congrArg Tally.selector left
  · next hl =>
    rw [State.afterOwnClose_eq (.inr (by simpa using hl))] at ht
    exact absurd (State.ownClosed_toIdle ht) sends.2.1

/-- A station that goes IDLE, or is reset, has both the win streak and the sit-out flag cleared. -/
theorem exec_toIdle (hx : exec c s = .next t) (hs : s.sync.state ≠ .idle) (ht : t.sync.state = .idle) :
    t.selector = { winStreak := 0, sitOut := false } := by
  have stays {line : Levels} {event : LineEvent} {u : State} (hu : s.heard line = some (event, u))
      (h : t.sync.state = .idle → u.sync.state = .idle) : t.selector = { winStreak := 0, sitOut := false } :=
    absurd ((State.heard_state hu).symm.trans (h ht)) hs
  cases exec_execMove hx with
  | aside a => exact absurd (a.acts.idle.mp ht) hs
  | reset => exact congrArg Tally.selector (exec_hardReset_tally hx)
  | joined idle => exact absurd idle hs
  | left => exact congrArg Tally.selector s.nowIdle_tally
  | leavePends => exact absurd ht hs
  | follows => exact absurd ht hs
  | offered heard => exact stays heard (congrArg Mirror.state (State.offer_mirror _)).symm.trans
  | lost heard own =>
    cases hx.symm.trans (exec_lostArbitration heard own)
    split at ht
    · rw [if_pos ‹_›]; exact congrArg Tally.selector (State.nowIdle_tally _)
    · exact absurd ht (State.heard_state heard ▸ hs)
  | spoiled heard => exact stays heard id
  | @lostPlace line u how heard =>
    refine stays heard fun ht => ?_
    have moved := congrArg Mirror.state (u.losePlace_mirror how)
    split at moved <;> [cases ht.symm.trans moved; exact moved.symm.trans ht]
  | regained heard => exact stays heard (congrArg Mirror.state (State.regain_mirror _ _)).symm.trans
  | ended heard => exact stays heard id
  | @badClosed line r rejecting u hears =>
    refine stays hears.1 fun ht => ?_
    obtain moved | ⟨-, moved⟩ := u.badClose_mirror rejecting
    · exact (congrArg Mirror.state moved).symm.trans ht
    · cases ht.symm.trans (congrArg Mirror.state moved)
  | discardedReceived hears => exact stays hears.1 id
  | committedReceived hears hr acts => exact stays hears.1 (acts.acts ⟨_, false, _⟩ _ nofun).idle.mp
  | discardedOwn sends hd => exact exec_ownClose_toIdle sends (by rw [if_pos hd]) hx ht
  | committedOwn sends hs hr => exact exec_ownClose_toIdle sends (by simp [hs, hr]) hx ht

/-! #### What every other command keeps -/

/-- But for a reset, a JOIN and the closes of own frames, no command moves the spoil streak or posts NUMBER_CLASH. -/
theorem exec_keeps_spoilStreak (hx : exec c s = .next t) (reset : ¬ ∃ sn br low, c = .hardReset sn br low)
    (join : ¬ (c = .join ∧ s.hostReady ∧ s.sync.state = .idle)) (own : ¬ ∃ f, s.matchedOwnClose c f ∨ s.spoiledOwnClose c f) :
    t.bus.spoilStreak = s.bus.spoilStreak ∧ t.tally.clashes ≤ s.tally.clashes := by
  have of_tally {y : TransmitSelector} (h : t.tally = { s.tally with selector := y }) :
      t.bus.spoilStreak = s.bus.spoilStreak ∧ t.tally.clashes ≤ s.tally.clashes := by
    rw [← State.tally_spoilStreak, h]
    exact ⟨rfl, Nat.le_refl _⟩
  obtain event | stands := exec_counts hx
  · cases event with
    | reset => exact absurd ⟨_, _, _, rfl⟩ reset
    | joined ready idle => exact absurd ⟨rfl, ready, idle⟩ join
    | left ready active unpending free => exact of_tally (exec_leave_tally ready active unpending free hx).1
    | offered heard =>
      obtain h | ⟨-, h⟩ := exec_offerPoint_tally heard hx <;> exact of_tally h
    | lost heard o =>
      obtain h | ⟨h, -⟩ := exec_lostArbitration_tally heard o hx <;> exact of_tally h
    | lostPlace heard => exact of_tally (exec_lostPlace_tally heard hx)
    | received closes => exact of_tally (exec_received_tally closes hx)
    | own closes => exact absurd ⟨_, closes⟩ own
  · exact ⟨stands.spoilStreak, stands.clashes⟩

/-- A lost arbitration, the close of another station's frame, intact or bad, or a lost place (R154). -/
abbrev State.losesWins (s : State) (c : Instr) : Prop :=
  (∃ line u, c = .lostArbitration line ∧ s.heard line = some (.lostArbitration, u) ∧ ∃ o, u.bus.current = .own o) ∨
    (s.intactClose c ∨ ∃ rejecting, s.badFrameCloses c rejecting) ∨
      ∃ line how u, c = .lostPlace line ∧ s.heard line = some (.lostPlace how, u)

/-- A hard reset, a JOIN, or a command that takes the station to IDLE (R154, R155). -/
abbrev State.endsSession (s : State) (c : Instr) (t : State) : Prop :=
  (∃ sn br low, c = .hardReset sn br low) ∨ (c = .join ∧ s.hostReady ∧ s.sync.state = .idle) ∨
    (s.sync.state ≠ .idle ∧ t.sync.state = .idle)

theorem exec_losesWins (h : s.losesWins c) (hx : exec c s = .next t) : t.selector.winStreak = 0 := by
  obtain ⟨line, u, rfl, heard, o, ho⟩ | closes | ⟨line, how, u, rfl, heard⟩ := h
  · obtain h | ⟨h, -⟩ := exec_lostArbitration_tally heard ho hx <;> exact congrArg (·.selector.winStreak) h
  · exact congrArg (·.selector.winStreak) (exec_received_tally closes hx)
  · exact congrArg (·.selector.winStreak) (exec_lostPlace_tally heard hx)

theorem exec_endsSession (h : s.endsSession c t) (hx : exec c s = .next t) :
    t.selector = { winStreak := 0, sitOut := false } := by
  obtain ⟨sn, br, low, rfl⟩ | ⟨rfl, ready, idle⟩ | ⟨hs, ht⟩ := h
  · exact congrArg Tally.selector (exec_hardReset_tally hx)
  · exact congrArg Tally.selector (exec_join_tally ready idle hx)
  · exact exec_toIdle hx hs ht

/-- But for the closes of own frames and the ends of sessions, a command keeps the selector, or is an offer point that uses the
sit-out flag, or takes the wins and keeps the flag; a deferred leave of a station that is IDLE with an own frame in flight clears both. -/
theorem exec_selector_cases (hx : exec c s = .next t) (own : ¬ ∃ f, s.matchedOwnClose c f ∨ s.spoiledOwnClose c f)
    (session : ¬ s.endsSession c t) :
    t.selector = s.selector ∨
    (s.selector.sitOut = true ∧ t.selector = { s.selector with sitOut := false } ∧
      ∃ line u, c = .offerPoint line ∧ s.heard line = some (.offerPoint, u)) ∨
    s.losesWins c ∧ (t.selector = { s.selector with winStreak := 0 } ∨ s.sync.state = .idle ∧ s.ownInFlight = true) := by
  have selector {y : Tally} (h : t.tally = y) : t.selector = y.selector := congrArg Tally.selector h
  obtain event | stands := exec_counts hx
  · cases event with
    | reset => exact absurd (.inl ⟨_, _, _, rfl⟩) session
    | joined ready idle => exact absurd (.inr (.inl ⟨rfl, ready, idle⟩)) session
    | left ready active unpending free =>
      exact absurd (.inr (.inr ⟨active, (exec_leave_tally ready active unpending free hx).2⟩)) session
    | @offered line u heard =>
      obtain h | ⟨sits, h⟩ := exec_offerPoint_tally heard hx
      · exact .inl (selector h)
      · exact .inr (.inl ⟨sits, selector h, line, u, rfl, heard⟩)
    | @lost line u o heard ho =>
      refine .inr (.inr ⟨.inl ⟨line, u, rfl, heard, o, ho⟩, ?_⟩)
      obtain h | ⟨-, ht⟩ := exec_lostArbitration_tally heard ho hx
      · exact .inl (selector h)
      · exact .inr ⟨by_contra fun hs => session (.inr (.inr ⟨hs, ht⟩)), State.heard_ownInFlight heard ho⟩
    | @lostPlace line how u heard =>
      exact .inr (.inr ⟨.inr (.inr ⟨line, how, u, rfl, heard⟩), .inl (selector (exec_lostPlace_tally heard hx))⟩)
    | received closes => exact .inr (.inr ⟨.inr (.inl closes), .inl (selector (exec_received_tally closes hx))⟩)
    | own closes => exact absurd ⟨_, closes⟩ own
  · exact .inl stands.selector

end

end Sys2Proof.Machine

namespace Sys2Proof

open Machine

/-! ### The statements -/

/-- Settles O24: the counts of the sender's own run and of its fill counter bound every run. -/
theorem insertedAndFillBitsBreakRuns : Obligations.InsertedAndFillBitsBreakRuns := by
  refine ⟨fun fields level => ?_, fun others => ⟨fillBits_length 0 others, (fillBits_runsWithin (Nat.zero_le 10) others).no_longer_run⟩⟩
  have started : RunsWithin level 6 0 (false :: stuff Run.start fields) := by
    refine ⟨Nat.zero_le 6, ?_⟩
    have sent := stuff_runsWithin Run.start_sound level fields
    cases level <;> exact sent
  exact started.no_longer_run

/-- Settles O42: the closes of own frames, JOIN and a reset one by one; every other command keeps the streak and posts no clash. -/
theorem spoilStreakRaisesNumberClash : Obligations.SpoilStreakRaisesNumberClash := by
  intro c s t hx
  have reset (h : ∃ sn br low, c = .hardReset sn br low) : t.bus.spoilStreak = 0 ∧ t.tally.clashes = 0 := by
    obtain ⟨sn, br, low, rfl⟩ := h
    rw [← State.tally_spoilStreak, exec_hardReset_tally hx]
    exact ⟨rfl, rfl⟩
  have join (h : c = .join ∧ s.hostReady ∧ s.sync.state = .idle) :
      t.bus.spoilStreak = 0 ∧ t.tally.clashes = s.tally.clashes := by
    obtain ⟨rfl, ready, idle⟩ := h
    rw [← State.tally_spoilStreak, exec_join_tally ready idle hx]
    exact ⟨rfl, rfl⟩
  have matched {f : Frame} (h : s.matchedOwnClose c f) : t.bus.spoilStreak = 0 ∧ t.tally.clashes = s.tally.clashes := by
    rw [← State.tally_spoilStreak, exec_matchedOwn_tally h hx]
    dsimp only
    split <;> exact ⟨rfl, rfl⟩
  refine ⟨fun h => h.elim (And.left ∘ reset) (And.left ∘ join), fun f h => (matched h).1,
    fun f h => ⟨fun h3 => ?_, fun h3 => ?_, fun h2 hl => exec_spoiledOwn_posts h h2 hl hx⟩,
    fun hr hj hm hs => (exec_keeps_spoilStreak hx hr hj ?_).1, fun unposted => ?_⟩
  · rw [exec_spoiledOwn_spoilStreak h hx, if_pos h3]
  · rw [exec_spoiledOwn_spoilStreak h hx, h3]; rfl
  · rintro ⟨f, h | h⟩ <;> [exact hm ⟨f, h⟩; exact hs ⟨f, h⟩]
  · show t.tally.clashes ≤ s.tally.clashes
    by_cases hr : ∃ sn br low, c = .hardReset sn br low
    · rw [(reset hr).2]; exact Nat.zero_le _
    by_cases hj : c = .join ∧ s.hostReady ∧ s.sync.state = .idle
    · exact Nat.le_of_eq (join hj).2
    by_cases own : ∃ f, s.matchedOwnClose c f ∨ s.spoiledOwnClose c f
    · obtain ⟨f, h | h⟩ := own
      · exact Nat.le_of_eq (matched h).2
      · exact Nat.le_of_eq (exec_spoiledOwn_clashes h (fun h2 => unposted ⟨f, h, h2⟩) hx)
    · exact (exec_keeps_spoilStreak hx hr hj own).2

/-- Settles O43: the closes of own frames by their class, what takes the wins, the ends of sessions, and what every other command
keeps. -/
theorem winStreakSetsSitOut : Obligations.WinStreakSetsSitOut := by
  intro c s t hx lostArbitration otherClose lostPlace sessionEnds
  refine ⟨fun f h hl => ?_, fun h => exec_losesWins h hx, fun h => exec_endsSession h hx,
    fun own lost other place session => ?_, fun own session idle changed => ?_⟩
  · rw [exec_ownClose_selector h hl hx]
    refine ⟨fun hu hs => TransmitSelector.afterOwn_low _ hu hs _, fun hk => ?_⟩
    rw [TransmitSelector.afterOwn_high _ hk]
    refine ⟨fun off => if_pos off, fun below => ?_, fun reached => ?_⟩
    · rw [if_neg (by omega), if_neg (by omega)]
    · rw [if_neg (by omega), if_pos (by omega)]
  · obtain h | ⟨-, h, -⟩ | ⟨h, -⟩ := exec_selector_cases hx own session
    · rw [h]
    · rw [h]
    · exact (h.elim lost fun h => h.elim other place).elim
  · obtain h | ⟨sits, -, offer⟩ | ⟨-, h | ⟨hs, flight⟩⟩ := exec_selector_cases hx own session
    · exact absurd (congrArg _ h) changed
    · exact ⟨sits, offer⟩
    · exact absurd (congrArg TransmitSelector.sitOut h) changed
    · cases (idle hs).symm.trans flight

end Sys2Proof

/-! ## Frame formats: every form of Chapter 8 is spelled by the bytes sent for it and by no others

The forms in the order of the model, bytes before fields before payloads; the statement follows at the end. -/

namespace Sys2Proof.Machine

/-! ### Fields of more than one byte (R158) -/

theorem halfBytes_halfOf (b1 b0 : Byte) : halfBytes (halfOf b1 b0) = [b1, b0] := by
  have high : (b1 ++ b0).extractLsb' 8 8 = b1 := BitVec.extractLsb'_append_eq_left
  have low : (b1 ++ b0).extractLsb' 0 8 = b0 := BitVec.extractLsb'_append_eq_right
  rw [halfBytes, halfOf, high, low]

theorem valueOf_eq_some_iff {bytes : List Byte} {v : Value} : valueOf bytes = some v ↔ bytes = valueBytes v := by
  refine ⟨fun h => ?_, fun h => h ▸ valueOf_valueBytes v⟩
  unfold valueOf at h
  split at h
  · cases h
    simp only [valueBytes, wordBytes_wordOf, List.cons_append, List.nil_append]
  · cases h

/-! ### Fields of one byte (R158) -/

theorem byteOf_toNat (b : Byte) : byteOf b.toNat = b := by simp [byteOf]

theorem byteOf_indexOf (b : Byte) : byteOf (indexOf b).val = b := byteOf_toNat b

theorem nibbleField_eq_some_iff {b : Byte} {x : Fin 16} : nibbleField b = some x ↔ b = byteOf x.val := by
  refine ⟨fun h => ?_, fun h => h ▸ nibbleField_byteOf x⟩
  unfold nibbleField at h
  split at h
  · cases h
    exact (byteOf_toNat b).symm
  · cases h

theorem stationOrNoneField_eq_some_iff {b : Byte} {x : Option Station} :
    stationOrNoneField b = some x ↔ b = stationByte x := by
  refine ⟨fun h => ?_, fun h => h ▸ stationOrNoneField_stationByte x⟩
  unfold stationOrNoneField at h
  split at h
  case isTrue hnone => cases h; exact hnone
  case isFalse =>
    obtain ⟨y, station, rfl⟩ := Option.map_eq_some_iff.mp h
    exact nibbleField_eq_some_iff.mp station

/-! ### The op and what follows it (R160) -/

theorem opOf_eq_some_iff {code : Byte} {rest : List Byte} {op : Op} :
    opOf code rest = some op ↔ code = opCode op ∧ rest = opBytes op := by
  refine ⟨fun h => ?_, fun ⟨hcode, hrest⟩ => by rw [hcode, hrest, opOf_opBytes]⟩
  unfold opOf at h
  split_ifs at h with write cswap claim nothing release nothing
  · obtain ⟨v, value, rfl⟩ := Option.map_eq_some_iff.mp h
    exact ⟨write, valueOf_eq_some_iff.mp value⟩
  · split at h
    next e1 e0 rest =>
      obtain ⟨v, value, rfl⟩ := Option.map_eq_some_iff.mp h
      refine ⟨cswap, ?_⟩
      rw [opBytes, halfBytes_halfOf, ← valueOf_eq_some_iff.mp value]
      rfl
    next => cases h
  · cases h; exact ⟨claim, nothing⟩
  · cases h; exact ⟨release, nothing⟩

/-! ### The lineage fields (R159, R162) -/

theorem carriedOf_eq_some_iff {bytes : List Byte} {c : Carried} : carriedOf bytes = some c ↔ bytes = carriedBytes c := by
  refine ⟨fun h => ?_, fun h => h ▸ carriedOf_carriedBytes c⟩
  unfold carriedOf at h
  split at h
  · obtain ⟨origin, station, rfl⟩ := Option.map_eq_some_iff.mp h
    rw [carriedBytes, halfBytes_halfOf, wordBytes_wordOf, wordBytes_wordOf, ← nibbleField_eq_some_iff.mp station]
    rfl
  · cases h

/-! ### Records and segments (R162) -/

theorem recOf_eq_some_iff {bytes : List Byte} {r : Rec} : recOf bytes = some r ↔ bytes = recBytes r := by
  refine ⟨fun h => ?_, fun h => h ▸ recOf_recBytes r⟩
  unfold recOf at h
  split at h
  next v v1 v0 c w value rest =>
    split at h
    next claimant writer hclaimant hwriter =>
      cases h
      rw [recBytes, halfBytes_halfOf, ← stationOrNoneField_eq_some_iff.mp hclaimant,
        ← stationOrNoneField_eq_some_iff.mp hwriter, ← valueOf_eq_some_iff.mp value]
      calc bytes = bytes.take 16 ++ bytes.drop 16 := (List.take_append_drop 16 bytes).symm
        _ = bytes.take 16 ++ [v1, v0] ++ [c, w] := by rw [rest, List.append_assoc]; rfl
    next => cases h
  next => cases h

/-- The count of records is part of the form: a segment of another length spells nothing. -/
theorem recsOf_eq_some_iff {n : Nat} {bytes : List Byte} {rs : List Rec} :
    recsOf n bytes = some rs ↔ rs.length = n ∧ bytes = rs.flatMap recBytes := by
  refine ⟨fun h => ?_, fun ⟨count, h⟩ => by rw [← count, h, recsOf_recBytes]⟩
  induction n generalizing bytes rs with
  | zero =>
    rw [recsOf] at h
    split at h
    next nothing => cases h; exact ⟨rfl, nothing⟩
    next => cases h
  | succ n ih =>
    rw [recsOf] at h
    split at h
    next r rs first others =>
      cases h
      obtain ⟨count, tail⟩ := ih others
      refine ⟨congrArg (· + 1) count, ?_⟩
      rw [List.flatMap_cons, ← recOf_eq_some_iff.mp first, ← tail, List.take_append_drop]
    next => cases h

theorem segmentOf16_eq_some_iff {bytes : List Byte} {rs : Vector Rec 16} :
    segmentOf16 bytes = some rs ↔ bytes = rs.toList.flatMap recBytes := by
  refine ⟨fun h => ?_, fun h => h ▸ segmentOf16_recBytes rs⟩
  unfold segmentOf16 at h
  split at h
  next records read =>
    split at h
    · cases h
      exact (recsOf_eq_some_iff.mp read).2
    · cases h
  next => cases h

/-! ### Payloads (R157, R159 to R162, R164) -/

/-- Only the frame's own payload, under its own kind code, spells it. -/
theorem payload_of_frameOf {kind : BitVec 4} {payload : List Byte} {f : Frame} (h : frameOf kind payload = some f) :
    kind = kindCode f.kind ∧ payload = payloadOf f := by
  unfold frameOf at h
  split_ifs at h with presence update wipe evict syncRequest offer snapshot
  · split at h
    next state interval rest =>
      obtain ⟨c, carried, rfl⟩ := Option.map_eq_some_iff.mp h
      exact ⟨presence, by rw [carriedOf_eq_some_iff.mp carried, payloadOf]⟩
    next => cases h
  · split at h
    next ticket code index rest =>
      obtain ⟨op, spelled, rfl⟩ := Option.map_eq_some_iff.mp h
      obtain ⟨hcode, hrest⟩ := opOf_eq_some_iff.mp spelled
      exact ⟨update, by rw [hcode, hrest, payloadOf, byteOf_indexOf]⟩
    next => cases h
  · split at h
    next g1 g0 => cases h; exact ⟨wipe, (halfBytes_halfOf g1 g0).symm⟩
    next => cases h
  · split at h
    next b =>
      obtain ⟨x, target, rfl⟩ := Option.map_eq_some_iff.mp h
      exact ⟨evict, by rw [nibbleField_eq_some_iff.mp target, payloadOf]⟩
    next => cases h
  · split at h
    next b =>
      obtain ⟨k, start, rfl⟩ := Option.map_eq_some_iff.mp h
      exact ⟨syncRequest, by rw [nibbleField_eq_some_iff.mp start, payloadOf]⟩
    next => cases h
  · split at h
    next b1 b0 =>
      split at h
      next j k joiner start =>
        cases h
        exact ⟨offer, by rw [nibbleField_eq_some_iff.mp joiner, nibbleField_eq_some_iff.mp start, payloadOf]⟩
      next => cases h
    next => cases h
  · split at h
    next b1 b0 rest =>
      split at h
      next j k c rs joiner segment carried records =>
        cases h
        refine ⟨snapshot, ?_⟩
        rw [payloadOf, ← nibbleField_eq_some_iff.mp joiner, ← nibbleField_eq_some_iff.mp segment,
          ← carriedOf_eq_some_iff.mp carried, ← segmentOf16_eq_some_iff.mp records, List.take_append_drop]
      next => cases h
    next => cases h

end Sys2Proof.Machine

namespace Sys2Proof

open Machine

/-! ### The statement -/

/-- Settles O58: a payload that spells a frame is its payload, form by form; and each frame is spelled by its own payload. -/
theorem payloadSpellsExactlyItsFrame : Obligations.PayloadSpellsExactlyItsFrame := by
  intro kind payload f
  refine ⟨payload_of_frameOf, ?_⟩
  rintro ⟨rfl, rfl⟩
  exact frameOf_payloadOf f

end Sys2Proof

/-! ## The host port and its commands: transactions, the codes and operands of a command, and the bytes each command returns

The laws first, in the order of the model; the statements follow at the end. -/

namespace Sys2Proof.Machine

/-! ### The codes of the command table (R167, R169) -/

theorem namesCommand_iff (code : Byte) :
    namesCommand code = true ↔
      code ∈ ([0x01, 0x02, 0x03, 0x04, 0x10, 0x11, 0x12, 0x13, 0x14, 0x15, 0x16, 0x17, 0x20, 0x21, 0x22, 0x30, 0x31, 0x32] :
        List Byte) := by
  simp [namesCommand, ← BitVec.toNat_inj]

section
variable {code : Byte}

theorem operandCount_unnamed (unnamed : namesCommand code = false) : operandCount code = 0 := by
  unfold operandCount
  split <;> simp_all [namesCommand]

theorem resultLength_unnamed (unnamed : namesCommand code = false) : resultLength code = 0 := by
  have other := mt (namesCommand_iff code).mpr (Bool.not_eq_true _ ▸ unnamed)
  simp only [List.mem_cons, List.not_mem_nil, or_false, not_or] at other
  simp only [resultLength, List.mem_cons, List.not_mem_nil, other, or_self, if_false]

/-- The command codes by the operands that follow them: none, a record index, or a form of their own. -/
theorem namesCommand_forms (named : namesCommand code = true) :
    code ∈ ([0x01, 0x03, 0x04, 0x15, 0x16, 0x17, 0x20, 0x21] : List Byte) ∨
      code ∈ ([0x10, 0x13, 0x14, 0x30, 0x31] : List Byte) ∨
      code = 0x22 ∨ code = 0x02 ∨ code = 0x32 ∨ code = 0x11 ∨ code = 0x12 := by
  have listed := (namesCommand_iff code).mp named
  simp only [List.mem_cons, List.not_mem_nil, or_false] at listed ⊢
  tauto

theorem operandCount_bare :
    ∀ code ∈ ([0x01, 0x03, 0x04, 0x15, 0x16, 0x17, 0x20, 0x21] : List Byte), operandCount code = 0 := by decide

theorem operandCount_index : ∀ code ∈ ([0x10, 0x13, 0x14, 0x30, 0x31] : List Byte), operandCount code = 1 := by decide

end

/-! ### The bytes of a transaction (09 section 9.4) -/

section
variable {c : Instr} {code a : Byte} {operands rest : List Byte}

theorem encodeHostPort_badCommand (unnamed : namesCommand code = false) : encodeHostPort (.badCommand code) = some [code] :=
  if_neg (Bool.not_eq_true _ ▸ unnamed)

theorem encodeHostPort_badCommand_eq_some {bytes : List Byte} (h : encodeHostPort (.badCommand code) = some bytes) :
    namesCommand code = false ∧ bytes = [code] := by
  cases unnamed : namesCommand code with
  | false => exact ⟨rfl, Option.some.inj (h.symm.trans (encodeHostPort_badCommand unnamed))⟩
  | true =>
    have none : encodeHostPort (.badCommand code) = none := if_pos unnamed
    cases none.symm.trans h

/-- A whole transaction holds as many operand bytes as its code asks for. -/
theorem decodeHostPort_count (h : decodeHostPort (code :: operands) = some c) : operands.length = operandCount code := by
  by_contra count
  have none : decodeHostPort (code :: operands) = none := if_pos count
  cases none.symm.trans h

theorem decodeHostPort_unnamed (unnamed : namesCommand code = false) : decodeHostPort [code] = some (.badCommand code) := by
  have count : ¬ ([] : List Byte).length ≠ operandCount code := by simp [operandCount_unnamed unnamed]
  exact (if_neg count).trans (if_pos (by simp [unnamed]))

theorem decodeHostPort_write (count : rest.length = 16) :
    decodeHostPort (0x11 :: a :: rest) = (valueOf rest).map (.write (indexOf a)) :=
  if_neg (not_not_intro (congrArg (· + 1) count))

theorem decodeHostPort_cswap {e1 e0 : Byte} (count : rest.length = 16) :
    decodeHostPort (0x12 :: a :: e1 :: e0 :: rest) = (valueOf rest).map (.cswap (indexOf a) (halfOf e1 e0)) :=
  have operands : (a :: e1 :: e0 :: rest).length = operandCount 0x12 := congrArg (· + 3) count
  if_neg (not_not_intro operands)

/-- A code without operands is the whole transaction of its command. -/
theorem encodeHostPort_decode_bare (bare : code ∈ ([0x01, 0x03, 0x04, 0x15, 0x16, 0x17, 0x20, 0x21] : List Byte))
    (h : decodeHostPort [code] = some c) : encodeHostPort c = some [code] := by
  fin_cases bare <;> cases h <;> rfl

/-- A code with a record index is the transaction of its command on that record. -/
theorem encodeHostPort_decode_index (index : code ∈ ([0x10, 0x13, 0x14, 0x30, 0x31] : List Byte))
    (h : decodeHostPort [code, a] = some c) : encodeHostPort c = some [code, a] := by
  fin_cases index <;> cases h <;> exact congrArg (fun b => some [_, b]) (byteOf_indexOf a)

/-- The bytes a command is decoded from are its encoding. -/
theorem encodeHostPort_of_decode {bytes : List Byte} (h : decodeHostPort bytes = some c) : encodeHostPort c = some bytes := by
  match bytes with
  | [] => cases h
  | code :: operands =>
    have count := decodeHostPort_count h
    cases named : namesCommand code with
    | false =>
      obtain rfl := List.length_eq_zero_iff.mp (count.trans (operandCount_unnamed named))
      cases (decodeHostPort_unnamed named).symm.trans h
      exact encodeHostPort_badCommand named
    | true =>
      obtain bare | index | form | form | form | form | form := namesCommand_forms named
      · obtain rfl := List.length_eq_zero_iff.mp (count.trans (operandCount_bare code bare))
        exact encodeHostPort_decode_bare bare h
      · obtain ⟨a, rfl⟩ := List.length_eq_one_iff.mp (count.trans (operandCount_index code index))
        exact encodeHostPort_decode_index index h
      · subst form
        match operands, count with
        | [_], _ => cases h; rfl
      · subst form
        match operands, count with
        | [_, _, _, _, _, _, _, _], _ => cases h; rfl
      · subst form
        match operands, count with
        | [_, _], _ => cases h; rfl
      · subst form
        match operands, count with
        | a :: rest, count =>
          rw [decodeHostPort_write (Nat.succ.inj count)] at h
          obtain ⟨v, value, rfl⟩ := Option.map_eq_some_iff.mp h
          rw [valueOf_eq_some_iff.mp value]
          exact congrArg (fun b => some (0x11 :: b :: valueBytes v)) (byteOf_indexOf a)
      · subst form
        match operands, count with
        | a :: e1 :: e0 :: rest, count =>
          rw [decodeHostPort_cswap (Nat.add_right_cancel (m := 3) count)] at h
          obtain ⟨v, value, rfl⟩ := Option.map_eq_some_iff.mp h
          have operands : byteOf (indexOf a).val :: (halfBytes (halfOf e1 e0) ++ valueBytes v) = a :: e1 :: e0 :: rest := by
            rw [byteOf_indexOf, halfBytes_halfOf, valueOf_eq_some_iff.mp value]; rfl
          exact congrArg (fun l => some (0x12 :: l)) operands

/-- A command is decoded from its encoding. -/
theorem decodeHostPort_of_encode {bytes : List Byte} (h : encodeHostPort c = some bytes) : decodeHostPort bytes = some c := by
  cases c
  case badCommand code =>
    obtain ⟨unnamed, rfl⟩ := encodeHostPort_badCommand_eq_some h
    exact decodeHostPort_unnamed unnamed
  all_goals cases h
  case write i v => rw [decodeHostPort_write (valueBytes_length v), valueOf_valueBytes, indexOf_byteOf, Option.map_some]
  case cswap i e v =>
    refine (decodeHostPort_cswap (valueBytes_length v)).trans ?_
    rw [valueOf_valueBytes, indexOf_byteOf, halfOf_halfBytes, Option.map_some]
  case readRecord i => exact congrArg (some ∘ Instr.readRecord) (indexOf_byteOf i)
  case claim i => exact congrArg (some ∘ Instr.claim) (indexOf_byteOf i)
  case release i => exact congrArg (some ∘ Instr.release) (indexOf_byteOf i)
  case watch i => exact congrArg (some ∘ Instr.watch) (indexOf_byteOf i)
  case unwatch i => exact congrArg (some ∘ Instr.unwatch) (indexOf_byteOf i)
  all_goals rfl

end

/-! ### The taking point (R165 to R167) -/

theorem beforeTaking_iff (bits : List Bool) :
    beforeTaking bits = true ↔
      bits.length < 8 ∨ bits.length < 8 * (1 + operandCount (byteOf (numberOf (bits.take 8)))) := by
  simp [beforeTaking]

/-- Eight bits sampled spell the command byte. -/
theorem byteOf_numberOf_take (code : Byte) (operands : List Byte) {n : Nat} (h : 8 ≤ n) :
    byteOf (numberOf (((bytesBits (code :: operands)).take n).take 8)) = code := by
  rw [List.take_take, Nat.min_eq_left h, bytesBits_cons, List.take_left' (bitsOf_length 8 _), numberOf_bitsOf_bitVec, byteOf_toNat]

/-- The taking point of a command is its last operand bit. -/
theorem beforeTaking_take_iff {code : Byte} {operands : List Byte} (count : operands.length = operandCount code) {n : Nat}
    (h : n ≤ 8 * (code :: operands).length) :
    beforeTaking ((bytesBits (code :: operands)).take n) = true ↔ n < 8 * (code :: operands).length := by
  rw [beforeTaking_iff, List.length_take_of_le (by rwa [bytesBits_length]), List.length_cons]
  by_cases part : n < 8
  · simp only [part, true_or, true_iff]
    omega
  · rw [byteOf_numberOf_take code operands (Nat.le_of_not_lt part), count]
    simp only [part, false_or, Nat.add_comm 1]

/-- A rise of SCS# before the taking point. -/
theorem exec_transactionTruncated {s : State} {bits : List Bool} (reading : s.port.phase = .command)
    (outstanding : beforeTaking bits = true) :
    exec (.transactionTruncated bits) s =
      .next { s with
        port := { s.port with phase := .idle, priorTruncated := s.port.priorTruncated || !bits.isEmpty } } := by
  simp [exec, execTransactionTruncated, reading, outstanding]

/-- STATUS apart, every command is taken with the result length of its code. -/
theorem encodeHostPort_takes {c : Instr} {bytes : List Byte} (h : encodeHostPort c = some bytes) :
    c = .status ∧ bytes = [0x01] ∨
      ∃ code operands act, bytes = code :: operands ∧ code ≠ 0x01 ∧
        ∀ s, exec c s = .next (s.takeCommand (resultLength code) act) := by
  cases c
  case badCommand code =>
    obtain ⟨unnamed, rfl⟩ := encodeHostPort_badCommand_eq_some h
    refine .inr ⟨code, [], fun s => refuse s .badCommand 0, rfl, ?_, fun s => ?_⟩
    · rintro rfl; cases unnamed
    · rw [resultLength_unnamed unnamed]
      exact congrArg Host.Outcome.next (if_neg (Bool.not_eq_true _ ▸ unnamed))
  all_goals cases h
  case status => exact .inl ⟨rfl, rfl⟩
  all_goals exact .inr ⟨_, _, _, rfl, by decide, fun _ => rfl⟩

/-- A ready port answers a command with its reply. -/
theorem exec_answers {c : Instr} {n : Nat} {act : State → Reply} {reply : Reply} {s : State} (ready : s.hostReady)
    (takes : exec c s = .next (s.takeCommand n act)) (h : act s = reply) :
    exec c s = .next (reply.state.replied (statusCode reply.status) reply.bytes) := by
  rw [takes, State.takeCommand_ready ready, h]

/-! ### Fields of the result bytes (R171, R174, R178 to R180) -/

/-- The bits of the number a run of bits spells: the last sent is the lowest (R141). -/
theorem testBit_numberOf (bits : Levels) (k : Nat) : (numberOf bits).testBit k = bits.reverse.getD k false := by
  induction bits using List.reverseRecOn generalizing k with
  | nil => simp [numberOf]
  | append_singleton bits b ih =>
    rw [numberOf_append_singleton, List.reverse_concat]
    cases k with
    | zero => cases b <;> simp
    | succ k =>
      have half : (2 * numberOf bits + b.toNat) / 2 = numberOf bits := by have := b.toNat_lt; omega
      rw [Nat.testBit_succ, half, ih, List.getD_cons_succ]

theorem flagsByte_getMsbD (b7 b6 b5 b4 b3 b2 b1 b0 : Bool) (k : Fin 8) :
    (flagsByte b7 b6 b5 b4 b3 b2 b1 b0).getMsbD k = [b7, b6, b5, b4, b3, b2, b1, b0][k] := by
  rw [flagsByte, BitVec.getMsbD_eq_getLsbD, BitVec.getLsbD_ofNat, testBit_numberOf]
  fin_cases k <;> rfl

theorem flagsByte_low4 : ∀ b7 b6 b5 b4 : Bool, (flagsByte b7 b6 b5 b4 false false false false).extractLsb' 0 4 = 0 := by decide

theorem flagsByte_low6 : ∀ b7 b6 : Bool, (flagsByte b7 b6 false false false false false false).extractLsb' 0 6 = 0 := by decide

/-- Each coverage byte holds the flags of eight segments. -/
theorem coverage_getMsbD (cov : Vector Bool 16) (k : Fin 8) :
    (flagsByte cov[0] cov[1] cov[2] cov[3] cov[4] cov[5] cov[6] cov[7]).getMsbD k = cov[k.val] ∧
      (flagsByte cov[8] cov[9] cov[10] cov[11] cov[12] cov[13] cov[14] cov[15]).getMsbD k = cov[8 + k.val] := by
  rw [flagsByte_getMsbD, flagsByte_getMsbD]
  fin_cases k <;> exact ⟨rfl, rfl⟩

theorem byteOf_station_toNat (x : Station) : (byteOf x.val).toNat = x.val := Nat.mod_eq_of_lt (by omega)

theorem byteOf_index_toNat (i : Index) : (byteOf i.val).toNat = i.val := Nat.mod_eq_of_lt i.isLt

theorem mode_modeCode_mem (m : Mode) :
    (m, modeCode m) ∈ ([(.idle, 0), (.listen, 1), (.syncing, 2), (.synced, 3), (.stranded, 4)] : List (Mode × Byte)) := by
  cases m <;> decide

theorem cause_causeCode_mem (c : Cause) :
    (c, causeCode c) ∈
      ([(.founded, 1), (.transferDone, 2), (.wiped, 3), (.behind, 4), (.missedFrame, 5), (.attemptsExhausted, 6),
        (.syncedPeerHeard, 7), (.joined, 8), (.left, 9)] : List (Cause × Byte)) := by
  cases c <;> decide

theorem joinerBytes_four (st : StationState) : ∃ b0 b1 b2 b3, joinerBytes st = [b0, b1, b2, b3] := by
  unfold joinerBytes; split <;> exact ⟨_, _, _, _, rfl⟩

theorem donorBytes_three (d : Option DonorRecord) : ∃ b0 b1 b2, donorBytes d = [b0, b1, b2] := by
  unfold donorBytes; split <;> exact ⟨_, _, _, rfl⟩

/-! ### STATUS, CONFIGURE and SET_INTERRUPTS (R171, R172, R182) -/

theorem exec_status {s : State} (reading : s.port.phase = .command) : exec .status s = .next (s.replied 0 s.statusBytes) :=
  congrArg Host.Outcome.next ((if_pos reading).trans (s.answer_eq .ok s.statusBytes))

section
variable {o : ConfigOperands} {s : State}

theorem find?_decide_cons {α : Type} (p : α → Prop) [DecidablePred p] (a : α) (l : List α) :
    ((a :: l).find? fun k => decide (p k)) = if p a then some a else l.find? fun k => decide (p k) := by
  by_cases h : p a <;> simp [h]

/-- No ordinal above the eighth names an operand. -/
theorem inRangeAt_above {k : Nat} (h : 9 ≤ k) : ConfigOperands.inRangeAt o k := by
  obtain ⟨k, rfl⟩ := Nat.exists_eq_add_of_le' h
  trivial

/-- CONFIGURE looks for an operand out of range from the first ordinal on. -/
theorem configFault_eq_find (o : ConfigOperands) [DecidablePred fun k => ¬ ConfigOperands.inRangeAt o k] :
    configFault o = (List.range 9).find? fun k => decide (¬ ConfigOperands.inRangeAt o k) := by
  have ordinals : List.range 9 = [0, 1, 2, 3, 4, 5, 6, 7, 8] := rfl
  rw [ordinals]
  simp only [find?_decide_cons (fun k => ¬ ConfigOperands.inRangeAt o k)]
  simp [configFault, ConfigOperands.inRangeAt]

theorem configFault_first {k : Nat} (bad : ¬ ConfigOperands.inRangeAt o k) (good : ∀ j < k, ConfigOperands.inRangeAt o j) :
    configFault o = some k := by
  classical
  have bound : k < 9 := Nat.lt_of_not_le (mt inRangeAt_above bad)
  rw [configFault_eq_find, List.find?_range_eq_some]
  simpa [bad, bound] using good

theorem configFault_none (good : ∀ k, ConfigOperands.inRangeAt o k) : configFault o = none := by
  classical
  rw [configFault_eq_find, List.find?_range_eq_none]
  simp [good]

theorem configParams_inRange (good : ∀ k, ConfigOperands.inRangeAt o k) :
    configParams o =
      { presenceInterval := o.presenceInterval.toNat
        lockN            := o.lockN.toNat
        unlockN          := o.unlockN.toNat
        retryLimit       := o.retryLimit.toNat
        failPolicy       := if o.failPolicy.toNat = 0 then .drop else .hold
        yieldN           := o.yieldN.toNat
        rejectBudget     := o.rejectBudget.toNat
        donorEnable      := o.donorEnable.toNat == 1 } := by
  have policy : o.failPolicy = 0 ↔ o.failPolicy.toNat = 0 := BitVec.toNat_inj.symm
  have zero : o.donorEnable = 0 ↔ o.donorEnable.toNat = 0 := BitVec.toNat_inj.symm
  have flag : o.donorEnable.toNat ≤ 1 := good 8
  have donor : decide (o.donorEnable ≠ 0) = (o.donorEnable.toNat == 1) := by
    rw [beq_eq_decide, decide_eq_decide, ne_eq, zero]
    omega
  rw [configParams, donor]
  simp only [policy]

theorem configureReply_refused (h : s.sync.state ≠ .idle ∨ s.sync.leavePending = true) :
    configureReply o s = ⟨.state, [0], s⟩ := if_pos h

theorem configureReply_badParam {k : Nat} (idle : s.sync.state = .idle) (staying : s.sync.leavePending = false)
    (h : configFault o = some k) : configureReply o s = ⟨.badParam, [byteOf k], s⟩ := by
  rw [configureReply, if_neg (by simp [idle, staying]), h]; rfl

theorem configureReply_stores (idle : s.sync.state = .idle) (staying : s.sync.leavePending = false) (h : configFault o = none) :
    configureReply o s = ⟨.ok, [0], { s with port := { s.port with stored := configParams o } }⟩ := by
  rw [configureReply, if_neg (by simp [idle, staying]), h]

end

section
variable {events completions : Byte} {s : State}

theorem setInterruptsReply_events (h : 1 < events.toNat) : setInterruptsReply events completions s = ⟨.badParam, [1], s⟩ :=
  if_pos h

theorem setInterruptsReply_completions (he : events.toNat ≤ 1) (hc : 1 < completions.toNat) :
    setInterruptsReply events completions s = ⟨.badParam, [2], s⟩ := by
  rw [setInterruptsReply, if_neg (Nat.not_lt.mpr he)]
  exact if_pos hc

theorem setInterruptsReply_sets (he : events.toNat ≤ 1) (hc : completions.toNat ≤ 1) :
    setInterruptsReply events completions s =
      ⟨.ok, [], { s with port := { s.port with eventEnable := events == 1, completionEnable := completions == 1 } }⟩ := by
  rw [setInterruptsReply, if_neg (Nat.not_lt.mpr he), if_neg (Nat.not_lt.mpr hc)]
  rfl

theorem State.intLow_iff (s : State) :
    s.intLow = true ↔
      s.port.eventEnable = true ∧ s.port.events ≠ [] ∨ s.port.completionEnable = true ∧ s.update.completions ≠ [] := by
  simp [State.intLow]

end

/-! ### READ_RECORD, TAKE_COMPLETION, TAKE_EVENT and READ_PEER (R174, R178 to R180) -/

section
variable {s : State}

theorem exec_readRecord (ready : s.hostReady) (i : Index) :
    exec (.readRecord i) s = .next (s.replied 0 (s.recordBytes i)) :=
  exec_answers ready (act := fun s => ⟨.ok, s.recordBytes i, s⟩) rfl rfl

theorem takeCompletionReply_empty (h : s.update.completions = []) :
    takeCompletionReply s = ⟨.empty, List.replicate 11 0, s⟩ := by
  rw [takeCompletionReply, h]; rfl

theorem takeCompletionReply_oldest {c : Completion} {rest : List Completion} (h : s.update.completions = c :: rest) :
    takeCompletionReply s = ⟨.ok, completionBytes c, { s with update := { s.update with completions := rest } }⟩ := by
  rw [takeCompletionReply, h]

theorem takeEventReply_empty (h : s.port.events = []) :
    takeEventReply s = ⟨.empty, [0, 0, 0, 0], { s with port := { s.port with lost := 0 } }⟩ := by
  rw [takeEventReply, h]; rfl

theorem takeEventReply_oldest {e : Event} {rest : List Event} (h : s.port.events = e :: rest) :
    takeEventReply s = ⟨.ok, eventBytes e, s.dropEvent e rest⟩ := by
  rw [takeEventReply, h]

/-- The oldest event goes; the flag of a RECORD_CHANGED goes with it. -/
theorem State.dropEvent_eq (s : State) (e : Event) (rest : List Event) :
    s.dropEvent e rest =
      { s with
        port  := { s.port with events := rest }
        table :=
          { s.table with
            changePending :=
              match e with
              | .recordChanged i _ => put s.table.changePending i false
              | _ => s.table.changePending } } := by
  cases e <;> rfl

theorem nibbleField_toNat {number : Byte} {x : Station} (h : number.toNat = x.val) : nibbleField number = some x := by
  rw [nibbleField_eq_some_iff, ← h, byteOf_toNat]

theorem readPeerReply_above {number : Byte} (h : 15 < number.toNat) :
    readPeerReply number s = ⟨.badParam, 1 :: List.replicate 17 0, s⟩ := by
  have none : nibbleField number = none := dif_neg (Nat.not_lt.mpr h)
  rw [readPeerReply, none]; rfl

theorem readPeerReply_own {number : Byte} (h : number.toNat = s.straps.number.val) :
    readPeerReply number s = ⟨.ok, selfBytes, s⟩ := by
  rw [readPeerReply, nibbleField_toNat h]
  simp [State.number]

theorem readPeerReply_peer {number : Byte} {x : Station} (h : number.toNat = x.val) (other : x ≠ s.straps.number) :
    readPeerReply number s = ⟨.ok, peerBytes s.peers.entries[x], s⟩ := by
  rw [readPeerReply, nibbleField_toNat h]
  simp [State.number, other]

end

end Sys2Proof.Machine

namespace Sys2Proof

open Machine

/-! ### The statements -/

/-- Settles O60: decoding and encoding are inverse, and the taking point of a command is the last bit of its encoding. -/
theorem hostPortBytesNameExactlyTheirCommand : Obligations.HostPortBytesNameExactlyTheirCommand := by
  refine ⟨fun c bytes => ⟨encodeHostPort_of_decode, decodeHostPort_of_encode⟩, fun c bytes encoded => ?_⟩
  match bytes with
  | [] => cases decodeHostPort_of_encode encoded
  | code :: operands =>
    have taking {n : Nat} := beforeTaking_take_iff (n := n) (decodeHostPort_count (decodeHostPort_of_encode encoded))
    refine ⟨?_, fun n short => (taking (Nat.le_of_lt short)).mpr short⟩
    rw [← Bool.not_eq_true, ← List.take_length (l := bytesBits _), bytesBits_length, taking (Nat.le_refl _)]
    exact Nat.lt_irrefl _

/-- Settles O6: STATUS apart, every command goes through the one test of the start-up clear, BAD_COMMAND after it. -/
theorem hostPortTestsBeforeTheCommand : Obligations.HostPortTestsBeforeTheCommand := by
  refine ⟨fun c code operands s encoded notStatus reading starting => ?_, fun code s ready unnamed => ?_⟩
  · obtain ⟨_, status⟩ | ⟨_, _, act, bytes, _, takes⟩ := encodeHostPort_takes encoded
    · exact absurd (List.cons.inj status).1 notStatus
    · cases bytes
      rw [takes, State.takeCommand_starting reading starting]
  · have takes : exec (.badCommand code) s = .next (s.takeCommand 0 fun s => refuse s .badCommand 0) :=
      congrArg Host.Outcome.next (if_neg (mt (namesCommand_iff code).mp unnamed))
    exact exec_answers ready takes rfl

/-- Settles O7: each edge of SCS# by the phase it meets, and no command outside the phase that reads one. -/
theorem transactionsFrameTheCommands : Obligations.TransactionsFrameTheCommands := by
  refine ⟨fun c bytes s encoded outside => ?_, fun bits line s => ⟨?_, ?_, ?_, ?_, ?_⟩, fun k s => ⟨?_, ?_⟩⟩
  · obtain ⟨rfl, _⟩ | ⟨_, _, act, _, _, takes⟩ := encodeHostPort_takes encoded
    · exact congrArg Host.Outcome.next (if_neg outside)
    · rw [takes, State.takeCommand_outside outside]
  · exact fun idle => congrArg Host.Outcome.next (if_pos idle)
  · rintro reading rfl
    simpa using exec_transactionTruncated reading (bits := []) rfl
  · intro reading sampled outstanding
    rw [exec_transactionTruncated reading ((beforeTaking_iff bits).mpr outstanding)]
    simp [sampled]
  · intro taken
    simp [exec, execTransactionEnd, taken]
  · intro ignoring
    simp [exec, execTransactionEnd, execTransactionTruncated, ignoring]
  · exact fun outside => if_neg outside
  · intro taken
    have driven : s.sdoByte k = some (s.port.result.getD k 0) := if_pos taken
    rw [driven]
    exact ⟨fun h => congrArg some (List.getD_eq_getElem _ _ h), fun h => congrArg some (List.getD_eq_default _ _ h)⟩

/-- Settles O8: the fields of the 29 bytes in order, the joiner's four and the donor's three each as one block. -/
theorem statusReturnsAllFields : Obligations.StatusReturnsAllFields := by
  intro s reading
  obtain ⟨j0, j1, j2, j3, joiner⟩ := joinerBytes_four s.sync.state
  obtain ⟨d0, d1, d2, donor⟩ := donorBytes_three s.sync.donor
  have answered := exec_status reading
  rw [State.statusBytes, joiner, donor] at answered
  have flags :=
    flagsByte_getMsbD s.port.starting s.sync.leavePending s.update.held s.sync.wipePending.isSome false false false false
  have enables := flagsByte_getMsbD s.port.eventEnable s.port.completionEnable false false false false false false
  refine ⟨⟨⟨_⟩, ?size⟩, answered, mode_modeCode_mem _, flags 0, flags 1, flags 2, flags 3, flagsByte_low4 _ _ _ _,
    byteOf_station_toNat _, halfOf_halfBytes _, rfl, wordOf_wordBytes _, wordOf_wordBytes _, coverage_getMsbD _, rfl, rfl, rfl, rfl,
    joiner.symm, donor.symm, ?offer, enables 0, enables 1, flagsByte_low6 _ _⟩
  case size => rfl
  case offer =>
    show stationByte (s.sync.offer.map OfferSlot.joiner) = _
    cases s.sync.offer <;> rfl

/-- Settles O9: the fault found is the first ordinal out of range, and the parameters stored are the operands. -/
theorem configureTestsInOrderAndStoresAll : Obligations.ConfigureTestsInOrderAndStoresAll := by
  refine fun o s ready => ⟨fun refused => ?_, fun idle staying => ⟨fun k bad good => ?_, fun good => ?_⟩⟩
  · exact exec_answers ready rfl (configureReply_refused refused)
  · exact exec_answers ready rfl (configureReply_badParam idle staying (configFault_first bad good))
  · rw [← configParams_inRange good]
    exact exec_answers ready rfl (configureReply_stores idle staying (configFault_none good))

/-- Settles O13, by the operand that is out of range or none. -/
theorem setInterruptsSetsBothEnables : Obligations.SetInterruptsSetsBothEnables := by
  refine fun e c s ready => ⟨fun he => ?_, fun he hc => ?_, fun he hc => ⟨_, ?_, rfl, ?_⟩⟩
  · exact exec_answers ready rfl (setInterruptsReply_events he)
  · exact exec_answers ready rfl (setInterruptsReply_completions he hc)
  · exact exec_answers ready rfl (setInterruptsReply_sets he hc)
  · simp [State.intLow_iff, State.replied]

/-- Settles O14: the record's fields in order, then its standing by the station state. -/
theorem readRecordReturnsRecordAndStanding : Obligations.ReadRecordReturnsRecordAndStanding := by
  intro i s ready
  refine ⟨⟨⟨s.recordBytes i⟩, rfl⟩, exec_readRecord ready i, wordOf_wordBytes _, wordOf_wordBytes _, wordOf_wordBytes _,
    wordOf_wordBytes _, halfOf_halfBytes _, rfl, rfl, ?_⟩
  show standingCode (s.standing i) = _
  unfold State.standing
  cases s.sync.state with
  | syncing =>
    dsimp only
    rw [apply_ite standingCode]
    rfl
  | _ => rfl

/-- Settles O16: the fields of the oldest record in order. -/
theorem takeCompletionRemovesOldest : Obligations.TakeCompletionRemovesOldest := by
  refine fun s ready => ⟨fun none => exec_answers ready rfl (takeCompletionReply_empty none), fun c rest oldest => ?_⟩
  have present := flagsByte_getMsbD c.versionAfter.isSome c.countAfter.isSome false false false false false false
  refine ⟨⟨⟨completionBytes c⟩, rfl⟩, exec_answers ready rfl (takeCompletionReply_oldest oldest), rfl, rfl,
    byteOf_index_toNat _, ?_, present 0, present 1, flagsByte_low6 _ _, halfOf_halfBytes _, wordOf_wordBytes _⟩
  show (c.result, resultCode c.result) ∈ _
  cases c.result <;> decide

/-- Settles O17, event kind by event kind. -/
theorem takeEventRemovesOldest : Obligations.TakeEventRemovesOldest := by
  refine fun s ready => ⟨fun none => exec_answers ready rfl (takeEventReply_empty none), fun e rest oldest => ?_⟩
  have taken := exec_answers ready (c := .takeEvent) (n := 4) rfl (takeEventReply_oldest oldest)
  rw [State.dropEvent_eq] at taken
  cases e with
  | stateChanged m c => exact ⟨_, _, _, taken, mode_modeCode_mem m, cause_causeCode_mem c, rfl⟩
  | peerUp x => exact ⟨_, _, _, taken, byteOf_station_toNat x, rfl, rfl⟩
  | peerDown x => exact ⟨_, _, _, taken, byteOf_station_toNat x, rfl, rfl⟩
  | peerEvicted x y => exact ⟨_, _, _, taken, byteOf_station_toNat x, byteOf_station_toNat y, rfl⟩
  | selfEvicted x => exact ⟨_, _, _, taken, byteOf_station_toNat x, rfl, rfl⟩
  | recordChanged i w => exact ⟨_, _, _, taken, byteOf_index_toNat i, byteOf_station_toNat w, rfl⟩
  | queueHeld ticket => exact ⟨_, _, _, taken, rfl, rfl, rfl⟩
  | wiped x g => exact ⟨_, _, _, taken, byteOf_station_toNat x, halfOf_halfBytes g⟩
  | transferRestart c => exact ⟨_, _, _, taken, by cases c <;> decide, rfl, rfl⟩
  | donorEnded j r => exact ⟨_, _, _, taken, byteOf_station_toNat j, by cases r <;> decide, rfl⟩
  | numberClash => exact ⟨_, _, _, taken, rfl, rfl, rfl⟩

/-- Settles O18: a number above 15, the station's own, and another's entry field by field. -/
theorem readPeerReturnsEntry : Obligations.ReadPeerReturnsEntry := by
  refine fun n s ready => ⟨fun h => ?_, fun h => ?_, fun x h other => ?_⟩
  · exact exec_answers ready rfl (readPeerReply_above h)
  · exact exec_answers ready rfl (readPeerReply_own h)
  · refine ⟨⟨⟨peerBytes s.peers.entries[x]⟩, rfl⟩, exec_answers ready rfl (readPeerReply_peer h other), ?state, rfl, rfl,
      rfl, ?reported, halfOf_halfBytes _, rfl, wordOf_wordBytes _, wordOf_wordBytes _, ?relation, rfl⟩
    case state =>
      show (_, peerStateCode _) ∈ _
      cases s.peers.entries[x].state <;> decide
    case reported =>
      show (_, match s.peers.entries[x].reported with | some r => reportedCode r | none => 0) ∈ _
      rcases s.peers.entries[x].reported with _ | _ | _ | _ | _ <;> decide
    case relation =>
      show (_, relationCode _) ∈ _
      cases s.peers.entries[x].relation <;> decide

/-- Settles O1: the queue's front is what `step` looks at. -/
theorem stepRunsFrontCommand : Obligations.StepRunsFrontCommand := fun _ _ _ => rfl

end Sys2Proof

/-! ## Events and watches: the event queue with its change-pending flags, WATCH and UNWATCH, and an event posted

The laws first, in the order of the model; the statements follow at the end. -/

namespace Sys2Proof.Machine

/-! ### The event queue and the change-pending flags

An update of the state that writes neither the event queue, nor the lost-event count, nor the change-pending flags keeps
`State.eventsOk` by definition. Four operations write one of them and leave the rest of the queue: an event posted that is no
RECORD_CHANGED, the watch check, UNWATCH and TAKE_EVENT. They come first, and `exec_eventsOk` carries them over all commands. -/

/-- Both branches of a choice keep the event queue. -/
theorem State.eventsOk.ite {p : Prop} [Decidable p] {a b : State} (ha : a.eventsOk) (hb : b.eventsOk) :
    (if p then a else b).eventsOk := by
  split <;> assumption

section
variable {s : State}

/-! #### Where the queue or a flag is written -/

theorem Event.changesRecord_self (i : Index) (x : Station) : (Event.recordChanged i x).changesRecord i = true :=
  decide_eq_true rfl

/-- An event is the RECORD_CHANGED of one record at most. -/
theorem Event.changesRecord_other {e : Event} {i j : Index} (h : e.changesRecord i = true) (hj : j ≠ i) :
    e.changesRecord j = false := by
  cases e with
  | recordChanged k x => obtain rfl : k = i := of_decide_eq_true h; exact decide_eq_false hj.symm
  | _ => rfl

/-- An event that is no RECORD_CHANGED joins the queue or is counted as lost (R185, R186). -/
theorem State.eventsOk.post {e : Event} (h : s.eventsOk) (he : ∀ i, e.changesRecord i = false) : (s.post e).eventsOk := by
  obtain ⟨room, lost, flags⟩ := h
  unfold State.post
  by_cases hr : s.port.events.length < 16
  · rw [HostPort.post_room hr]
    refine ⟨?_, lost, fun i => ?_⟩
    · rw [List.length_append]; exact hr
    · rw [List.countP_append, List.countP_singleton, he]; exact flags i
  · rw [HostPort.post_full (Nat.le_of_not_lt hr)]
    exact ⟨room, Nat.min_le_left _ _, flags⟩

/-- A flag and the queue written together agree where the flag fits the record's count and no other record's count moves. -/
theorem State.eventsOk.setFlag {b : Bool} {i : Index} {events : List Event} (h : s.eventsOk) (room : events.length ≤ 16)
    (same : events.countP (fun e => e.changesRecord i) = if b then 1 else 0)
    (others : ∀ j, j ≠ i → events.countP (fun e => e.changesRecord j) = s.port.events.countP fun e => e.changesRecord j) :
    State.eventsOk { s with port.events := events, table.changePending := put s.table.changePending i b } := by
  obtain ⟨-, lost, flags⟩ := h
  refine ⟨room, lost, fun j => ?_⟩
  obtain rfl | hj := eq_or_ne j i
  · rw [Fin.getElem_fin, put_getElem_same]; exact same
  · rw [Fin.getElem_fin, put_getElem_other _ _ _ _ hj]; exact (others j hj).trans (flags j)

/-- The watch check stores a RECORD_CHANGED only where the flag is clear, and sets the flag with it (R190). -/
theorem State.eventsOk.noteChange (h : s.eventsOk) (i : Index) (x : Station) : (s.noteChange i x).eventsOk := by
  obtain hs | ⟨-, clear, hr, hs⟩ | ⟨-, -, -, hs⟩ := s.noteChange_cases i x <;> rw [hs]
  · exact h
  · have ⟨_, _, flags⟩ := h
    refine h.setFlag (b := true) ?_ ?_ fun j hj => ?_
    · rw [List.length_append]; exact hr
    · have none := flags i
      rw [clear] at none
      rw [List.countP_append, List.countP_singleton, none, Event.changesRecord_self]; rfl
    · rw [List.countP_append, List.countP_singleton, Event.changesRecord_other (Event.changesRecord_self i x) hj]; rfl
  · obtain ⟨room, -, flags⟩ := h
    exact ⟨room, Nat.min_le_left _ _, flags⟩

/-- UNWATCH clears the flag and removes its RECORD_CHANGED (R191). -/
theorem State.eventsOk.unwatch (h : s.eventsOk) (i : Index) : (s.unwatch i).eventsOk := by
  have ⟨room, _, _⟩ := h
  refine h.setFlag (b := false) ((List.length_filter_le _ _).trans room) ?_ fun j hj => ?_
  · simp [List.countP_filter]
  · rw [List.countP_filter]
    refine List.countP_congr fun e _ => ?_
    simpa using fun he => Event.changesRecord_other he hj.symm

/-- TAKE_EVENT takes the flag of a RECORD_CHANGED with it: it was the one the queue held for its record (R187). -/
theorem State.eventsOk.dropEvent {e : Event} {rest : List Event} (h : s.eventsOk) (oldest : s.port.events = e :: rest) :
    (s.dropEvent e rest).eventsOk := by
  have ⟨room, lost, flags⟩ := h
  rw [oldest] at room flags
  have room' : rest.length ≤ 16 := Nat.le_of_succ_le room
  cases e with
  | recordChanged i w =>
    refine h.setFlag (b := false) room' ?_ fun j hj => ?_
    · have one := flags i
      rw [List.countP_cons_of_pos (by exact Event.changesRecord_self i w)] at one
      rw [if_neg Bool.false_ne_true]
      split at one <;> omega
    · rw [oldest, List.countP_cons_of_neg (by simp [Event.changesRecord_other (Event.changesRecord_self i w) hj])]
  | _ => exact ⟨room', lost, fun i => (List.countP_cons_of_neg Bool.false_ne_true).symm.trans (flags i)⟩

/-! #### The state changes -/

theorem State.eventsOk.endServing (h : s.eventsOk) (why : EndReason) : (s.endServing why).eventsOk := by
  unfold State.endServing
  split <;> [exact h; exact h.post fun _ => rfl]

theorem State.eventsOk.retry (h : s.eventsOk) (next : Segment) (attempts : Nat) : (s.retry next attempts).eventsOk :=
  .ite h (.post h fun _ => rfl)

theorem State.eventsOk.loseTransfers (h : s.eventsOk) (x : Station) : (s.loseTransfers x).eventsOk := by
  have served : (s.joinerLost x).eventsOk := by
    unfold State.joinerLost
    split <;> [exact .ite (h.endServing _) h; exact h]
  rw [State.loseTransfers_parts]
  unfold State.donorLost
  split <;> [exact .ite (.retry (.post served fun _ => rfl) _ _) served; exact served]

theorem State.eventsOk.leaveSynced (h : s.eventsOk) (cause : Cause) : (s.leaveSynced cause).eventsOk := by
  have withdrawn : State.eventsOk { s.cancel .cancelledResync with sync.wipePending := none, sync.offer := none } := h
  exact .post (withdrawn.endServing .leftSynced) fun _ => rfl

theorem State.eventsOk.found (h : s.eventsOk) : s.found.eventsOk := .post h fun _ => rfl

theorem State.eventsOk.goIdle (h : s.eventsOk) : s.goIdle.eventsOk := by
  have cancelled : (s.cancel .cancelledLeave).eventsOk := h
  exact .post (cancelled.endServing .leftSynced) fun _ => rfl

theorem State.eventsOk.joinSession (h : s.eventsOk) : s.joinSession.eventsOk := .post h fun _ => rfl

/-! #### The acts of the closes -/

theorem State.eventsOk.hearEvidence (h : s.eventsOk) : s.hearEvidence.eventsOk := by
  unfold State.hearEvidence
  split <;> exact h

theorem State.eventsOk.countFrame (h : s.eventsOk) (bytes : List Byte) : (s.countFrame bytes).eventsOk := by
  unfold State.countFrame
  split <;> [exact .ite h h; exact .ite h h; exact h]

theorem State.eventsOk.applyEvaluation (h : s.eventsOk) (cl : Closing) (i : Index) (out : Option (Result × Rec)) :
    (s.applyEvaluation cl i out).eventsOk := by
  unfold State.applyEvaluation
  split
  · exact h
  · next r record =>
    have evaluated : State.eventsOk { s with table.records := put s.table.records i record } := h
    exact .ite (evaluated.noteChange _ _) evaluated

theorem State.eventsOk.settleHead (h : s.eventsOk) (r : Result) (v : Half) : (s.settleHead r v).eventsOk := by
  unfold State.settleHead
  split <;> exact h

theorem State.eventsOk.failHead (h : s.eventsOk) : s.failHead.eventsOk := by
  unfold State.failHead
  split
  · exact h
  · refine .ite h ?_
    split <;> [exact h; exact h.post fun _ => rfl]

theorem State.eventsOk.settleEvaluation (h : s.eventsOk) (cl : Closing) (out : Option (Result × Rec)) :
    (s.settleEvaluation cl out).eventsOk := by
  unfold State.settleEvaluation
  split <;> [exact h; exact .ite (h.settleHead _ _) h]

theorem State.eventsOk.actUpdate (h : s.eventsOk) (cl : Closing) : (actUpdate cl s).eventsOk := by
  unfold Machine.actUpdate
  split <;> [exact ((h.hearEvidence.applyEvaluation _ _ _).countFrame _).settleEvaluation _ _; exact h]

theorem State.eventsOk.evictPeer (h : s.eventsOk) (target sender : Station) : (s.evictPeer target sender).eventsOk := by
  have gone : (s.setPeer target { s.peers.entries[target].gone with evictPending := false }).eventsOk := h
  exact .ite (h.post fun _ => rfl) (.loseTransfers (gone.post fun _ => rfl) target)

theorem State.eventsOk.actEvict (h : s.eventsOk) (cl : Closing) : (actEvict cl s).eventsOk := by
  unfold Machine.actEvict
  split
  · next target _ =>
    have released : (s.hearEvidence.releaseClaims target).eventsOk := h.hearEvidence
    exact (released.countFrame _).evictPeer _ _
  · exact h

theorem State.eventsOk.actWipe (h : s.eventsOk) (cl : Closing) : (actWipe cl s).eventsOk := by
  unfold Machine.actWipe
  split
  · next g _ =>
    have cancelled : (s.cancel .cancelledWipe).eventsOk := h
    have wiped : ((s.cancel .cancelledWipe).takeWipe cl.sender g).eventsOk := h
    dsimp only
    split
    · exact .post (wiped.endServing _) fun _ => rfl
    · exact .post (.post h fun _ => rfl) fun _ => rfl
    · exact cancelled.hearEvidence
  · exact h

theorem State.eventsOk.hearPeer (h : s.eventsOk) (x : Station) (state interval : Byte) (c : Carried) :
    (s.hearPeer x state interval c).eventsOk :=
  .ite h (.ite (.post h fun _ => rfl) h)

theorem State.eventsOk.setRelation (h : s.eventsOk) (x : Station) (r : Relation) : (s.setRelation x r).eventsOk := .ite h h

theorem State.eventsOk.hearLower (h : s.eventsOk) (x : Station) (r : Option Reported) : (s.hearLower x r).eventsOk := .ite h h

theorem State.eventsOk.weighPresence (h : s.eventsOk) (x : Station) (r : Option Reported) (c : Carried) :
    (s.weighPresence x r c).eventsOk := by
  unfold State.weighPresence
  split
  · refine .ite ?_ (h.setRelation _ _)
    unfold State.compareWith
    split <;> [exact h.leaveSynced _; exact h.setRelation _ _; exact h.setRelation _ _]
  · exact .ite (h.setRelation _ _).hearEvidence ((h.setRelation _ _).hearLower _ _)
  · exact .ite (.post (h.setRelation x .unknown) fun _ => rfl) ((h.setRelation _ _).hearLower _ _)
  · exact h.setRelation _ _

theorem State.eventsOk.actPresence (h : s.eventsOk) (cl : Closing) : (actPresence cl s).eventsOk := by
  unfold Machine.actPresence
  split <;> [exact .ite h ((h.hearPeer _ _ _ _).weighPresence _ _ _); exact h]

theorem State.eventsOk.actSyncRequest (h : s.eventsOk) (cl : Closing) : (actSyncRequest cl s).eventsOk := by
  have sent : s.requestSent.eventsOk := by
    unfold State.requestSent
    split <;> [exact .ite h h; exact h]
  have ended : (s.reRequested cl.sender).eventsOk := by
    unfold State.reRequested
    split <;> [exact .ite (h.endServing _) h; exact h]
  unfold Machine.actSyncRequest
  split <;> [exact .ite sent (.ite (.ite ended ended) h); exact h]

theorem State.eventsOk.actOffer (h : s.eventsOk) (cl : Closing) : (actOffer cl s).eventsOk := by
  have heard := h.hearEvidence
  have withdrawn (j : Station) : (s.hearEvidence.withdrawOffer j).eventsOk := by
    unfold State.withdrawOffer
    split <;> [exact .ite heard heard; exact heard]
  unfold Machine.actOffer
  split
  · refine .ite (.ite heard heard) ?_
    unfold State.takeOffer
    split <;> [exact .ite (withdrawn _) (withdrawn _); exact withdrawn _]
  · exact h

theorem State.eventsOk.settleSegment (h : s.eventsOk) : s.settleSegment.eventsOk := by
  unfold State.settleSegment
  split <;> [exact h; (split <;> [exact h; exact h.endServing _])]

theorem State.eventsOk.failSegment (h : s.eventsOk) : s.failSegment.eventsOk := by
  unfold State.failSegment
  split <;> [exact h; exact .ite h (h.endServing _)]

theorem State.eventsOk.acceptSegment (h : s.eventsOk) (d : Station) (k : Segment) (rs : Vector Rec 16) (attempts : Nat) :
    (s.acceptSegment d k rs attempts).eventsOk := by
  unfold State.acceptSegment
  dsimp only
  split <;> [exact h; exact .ite (.post h fun _ => rfl) h]

theorem State.eventsOk.receiveSegment (h : s.eventsOk) (x j : Station) (k : Segment) (c : Carried) (rs : Vector Rec 16) :
    (s.receiveSegment x j k c rs).eventsOk := by
  unfold State.receiveSegment
  split
  · have started : State.eventsOk { s with sync.position := positionOf c } := h
    have restarted : ((s.coverAll false).dropPosition).eventsOk := h
    exact .ite (.ite (started.acceptSegment _ _ _ _) (.ite (h.acceptSegment _ _ _ _) (.retry (restarted.post fun _ => rfl) _ _))) h
  · exact h

theorem State.eventsOk.actSnapshot (h : s.eventsOk) (cl : Closing) : (actSnapshot cl s).eventsOk := by
  unfold Machine.actSnapshot
  split <;> [exact .ite h.hearEvidence.settleSegment (h.hearEvidence.receiveSegment _ _ _ _ _); exact h]

/-- The acts of every close keep the event queue. -/
theorem State.eventsOk.closeAct (h : s.eventsOk) (k : Kind) (cl : Closing) : (closeAct k cl s).eventsOk := by
  cases k with
  | presence => exact h.actPresence cl
  | update => exact h.actUpdate cl
  | wipe => exact h.actWipe cl
  | evict => exact h.actEvict cl
  | syncRequest => exact h.actSyncRequest cl
  | offer => exact h.actOffer cl
  | snapshot => exact h.actSnapshot cl

/-! #### The line and the ends of frames -/

theorem State.eventsOk.offer (h : s.eventsOk) : s.offer.eventsOk := by
  have drives (f : Frame) : (s.drive f).eventsOk := by cases f <;> exact h
  refine .ite h (.ite h ?_)
  split <;> [exact drives _; exact h]

theorem State.eventsOk.regain (h : s.eventsOk) (how : StepGain) : (s.regain how).eventsOk := by
  cases how <;> exact h

theorem State.eventsOk.losePlace (h : s.eventsOk) (how : PlaceLoss) : (s.losePlace how).eventsOk := by
  have out : (s.outOfStep how).eventsOk := h
  exact .ite (out.leaveSynced _) out

theorem State.eventsOk.badClose (h : s.eventsOk) (rejecting : Bool) : (s.badClose rejecting).eventsOk := by
  have closed (driven : Bool) : State.eventsOk { s.frameEnds true with bus.slotDriven := driven, selector.winStreak := 0 } := h
  exact .ite h (.ite ((closed _).leaveSynced _) h)

theorem State.eventsOk.settleDiscarded (h : s.eventsOk) (f : Frame) : (s.settleDiscarded f).eventsOk := by
  cases f with
  | update => exact h.failHead
  | snapshot => exact h.failSegment
  | _ => exact h

theorem State.eventsOk.raiseSpoil (h : s.eventsOk) : s.raiseSpoil.eventsOk := .ite (.ite (.post h fun _ => rfl) h) h

theorem State.eventsOk.spoiledClose (h : s.eventsOk) (f : Frame) : (s.spoiledClose f).eventsOk := by
  have closed : (s.closeSpoiled f).eventsOk := h
  exact (closed.settleDiscarded f).raiseSpoil

theorem State.eventsOk.rejectedClose (h : s.eventsOk) (cl : Closing) : (s.rejectedClose cl).eventsOk := by
  have closed : (s.closeMatched cl).eventsOk := h
  exact .ite (closed.settleDiscarded _) closed

theorem State.eventsOk.afterOwnClose (h : s.eventsOk) (own : Bool) : (s.afterOwnClose own).eventsOk := .ite h.goIdle h

/-- The levels of the line keep the event queue. -/
theorem State.eventsOk.heard {u : State} {line : Levels} {event : LineEvent} (h : s.eventsOk)
    (hu : s.heard line = some (event, u)) : u.eventsOk := by
  rw [State.heard_keeps hu]; exact h

theorem State.eventsOk.closing {u : State} {line : Levels} {e : Ending} (h : s.eventsOk)
    (hcl : s.closing line = some (e, u)) : u.eventsOk := h.heard (State.closing_heard hcl).1

theorem State.eventsOk.closeCommitted (h : s.eventsOk) (line : Levels) (k : Kind) :
    (s.closeCommitted line k (Machine.closeAct k)).eventsOk := by
  obtain hs | ⟨cl, u, hcl, -, ended⟩ := s.closeCommitted_cases line k (Machine.closeAct k)
  · rw [hs]; exact h
  · have hu : u.eventsOk := h.closing hcl
    have closed : (u.closeMatched cl).eventsOk := hu
    obtain ⟨-, hs⟩ | ⟨-, hs⟩ := ended <;> rw [hs]
    · exact hu
    · exact (closed.closeAct k cl).afterOwnClose _

/-! #### The timers -/

theorem State.eventsOk.endListenWindow (h : s.eventsOk) : s.endListenWindow.eventsOk := by
  unfold State.endListenWindow
  split <;> [exact .ite (.post h fun _ => rfl) h.found; exact .ite h h.found; exact h]

theorem State.eventsOk.expireWatch (h : s.eventsOk) (x : Station) : (s.expireWatch x).eventsOk := by
  have rewritten (p : Peer) : (s.setPeer x p).eventsOk := h
  have missed (misses : Nat) : (s.missPeer x misses).eventsOk :=
    .ite h (.loseTransfers (.post (rewritten _) fun _ => rfl) x)
  unfold State.expireWatch
  split <;> [exact h; exact (rewritten _).loseTransfers x; exact missed _; exact missed _]

/-! #### The host's commands -/

/-- A host command keeps the event queue as its own action does: filling the result buffer does not touch it. -/
theorem State.eventsOk.takeCommand {act : State → Reply} (n : Nat) (h : s.eventsOk) (ha : (act s).state.eventsOk) :
    (s.takeCommand n act).eventsOk := by
  unfold State.takeCommand
  dsimp only
  refine .ite ?_ h
  split <;> [exact h; exact ha]

theorem State.eventsOk.changeReply (h : s.eventsOk) (op : Op) (i : Index) : (changeReply op i s).state.eventsOk := by
  obtain hs | ⟨-, -, hs⟩ := changeReply_cases op i s <;> rw [hs] <;> exact h

theorem State.eventsOk.takeEventReply (h : s.eventsOk) : (takeEventReply s).state.eventsOk := by
  cases oldest : s.port.events with
  | nil =>
    rw [takeEventReply_empty oldest]
    obtain ⟨room, -, flags⟩ := h
    exact ⟨room, Nat.zero_le _, flags⟩
  | cons e rest =>
    rw [takeEventReply_oldest oldest]
    exact h.dropEvent oldest

theorem State.eventsOk.joinReply (h : s.eventsOk) : (joinReply s).state.eventsOk := by
  unfold Machine.joinReply
  split <;> [exact h; exact h.joinSession]

theorem State.eventsOk.leaveReply (h : s.eventsOk) : (leaveReply s).state.eventsOk := by
  unfold Machine.leaveReply
  split <;> [exact h; (split <;> [exact h; (split <;> [exact h; exact h.goIdle])])]

theorem State.eventsOk.configureReply (h : s.eventsOk) (o : ConfigOperands) : (configureReply o s).state.eventsOk := by
  unfold Machine.configureReply
  split <;> [exact h; (split <;> exact h)]

theorem State.eventsOk.setInterruptsReply (h : s.eventsOk) (events completions : Byte) :
    (setInterruptsReply events completions s).state.eventsOk := by
  unfold Machine.setInterruptsReply
  split <;> [exact h; (split <;> exact h)]

theorem State.eventsOk.wipeReply (h : s.eventsOk) : (wipeReply s).state.eventsOk := by
  unfold Machine.wipeReply
  split <;> [exact h; (split <;> exact h)]

theorem State.eventsOk.resumeReply (h : s.eventsOk) : (resumeReply s).state.eventsOk := by
  unfold Machine.resumeReply
  split <;> exact h

theorem State.eventsOk.discardHeadReply (h : s.eventsOk) : (discardHeadReply s).state.eventsOk := by
  unfold Machine.discardHeadReply
  split <;> exact h

theorem State.eventsOk.takeCompletionReply (h : s.eventsOk) : (takeCompletionReply s).state.eventsOk := by
  unfold Machine.takeCompletionReply
  split <;> exact h

theorem State.eventsOk.readPeerReply (h : s.eventsOk) (number : Byte) : (readPeerReply number s).state.eventsOk := by
  unfold Machine.readPeerReply
  split <;> exact h

/-! #### Every command -/

/-- Every command keeps the event queue. -/
theorem exec_eventsOk {c : Instr} {t : State} (h : s.eventsOk) (hx : exec c s = .next t) : t.eventsOk := by
  have close (k : Kind) (line : Levels) (hk : exec (closeOf k line) s = .next t) : t.eventsOk := by
    cases hk.symm.trans (exec_closeOf_act s k line)
    exact h.closeCommitted line k
  cases c
  case updateClose line => exact close .update line hx
  case evictClose line => exact close .evict line hx
  case wipeClose line => exact close .wipe line hx
  case presenceClose line => exact close .presence line hx
  case syncRequestClose line => exact close .syncRequest line hx
  case offerClose line => exact close .offer line hx
  case snapshotClose line => exact close .snapshot line hx
  all_goals obtain rfl := Host.Outcome.next.inj hx
  case hardReset => exact State.reset_eventsOk
  case startUpClearComplete => exact .ite h h
  case transactionStart => exact .ite h h
  case transactionTruncated => split <;> [exact .ite h h; exact h; exact h]
  case transactionEnd => split <;> exact h
  case status => exact .ite h h
  case configure => exact h.takeCommand _ (h.configureReply _)
  case join => exact h.takeCommand _ h.joinReply
  case leave => exact h.takeCommand _ h.leaveReply
  case readRecord => exact h.takeCommand _ h
  case write => exact h.takeCommand _ (h.changeReply _ _)
  case cswap => exact h.takeCommand _ (h.changeReply _ _)
  case claim => exact h.takeCommand _ (h.changeReply _ _)
  case release => exact h.takeCommand _ (h.changeReply _ _)
  case wipe => exact h.takeCommand _ h.wipeReply
  case resume => exact h.takeCommand _ h.resumeReply
  case discardHead => exact h.takeCommand _ h.discardHeadReply
  case takeCompletion => exact h.takeCommand _ h.takeCompletionReply
  case takeEvent => exact h.takeCommand _ h.takeEventReply
  case readPeer => exact h.takeCommand _ (h.readPeerReply _)
  case watch => exact h.takeCommand _ h
  case unwatch i => exact h.takeCommand _ (h.unwatch i)
  case setInterrupts => exact h.takeCommand _ (h.setInterruptsReply _ _)
  case badCommand => exact .ite h (h.takeCommand _ h)
  case offerPoint => split <;> [exact (h.heard ‹_›).offer; exact h]
  case lostArbitration =>
    split
    · next u hu =>
      split
      · next o _ =>
        have heard := h.heard hu
        have lost : State.eventsOk { u with bus := u.bus.loseArbitration o u.number, selector.winStreak := 0 } := heard
        exact .ite lost.goIdle lost
      · exact h
    · exact h
  case spoiledFrame =>
    split
    · next u hu =>
      have heard := h.heard hu
      split <;> [exact heard; exact h]
    · exact h
  case lostPlace => split <;> [exact (h.heard ‹_›).losePlace _; exact h]
  case regainStep => split <;> [exact (h.heard ‹_›).regain _; exact h]
  case badFrameClose =>
    split
    · next rejecting u hcl =>
      have closed := h.closing hcl
      exact .ite (closed.badClose _) closed
    · exact h
  case discardedClose =>
    split
    · next cl spoiled u hcl =>
      have closed := h.closing hcl
      exact .ite (.afterOwnClose (.ite (closed.spoiledClose _) (closed.rejectedClose _)) _) closed
    · exact h
  case listenTimerExpiry => exact .ite h.endListenWindow h
  case presenceTimer => exact .ite h h
  case offerTimerExpiry =>
    refine .ite ?_ h
    split <;> [exact h.retry _ _; exact h]
  case segmentTimerExpiry =>
    refine .ite ?_ h
    split <;> [exact .retry (h.post fun _ => rfl) _ _; exact h]
  case watchTimerExpiry x => exact .ite (h.expireWatch x) h

end

/-! ### WATCH and UNWATCH (R181, R191) -/

/-- UNWATCH as the claim writes it: the events that stay are those of no RECORD_CHANGED, or of another record's. -/
theorem State.unwatch_eq (s : State) (i : Index) :
    s.unwatch i =
      { s with
        table :=
          { s.table with
            watch         := put s.table.watch i false
            changePending := put s.table.changePending i false }
        port  :=
          { s.port with
            events := s.port.events.filter fun e => match e with | .recordChanged j _ => j != i | _ => true } } := by
  have stays : (fun e : Event => !e.changesRecord i) = fun e => match e with | .recordChanged j _ => j != i | _ => true := by
    funext e
    cases e <;> rfl
  rw [State.unwatch, stays]

end Sys2Proof.Machine

namespace Sys2Proof

open Machine

/-! ### The statements -/

/-- Settles O46: a millisecond touches neither the queue nor the flags, and every command keeps their agreement. -/
theorem everyStepKeepsEventQueue : Obligations.EveryStepKeepsEventQueue := by
  intro s t h hx
  unfold step at hx
  split at hx
  · cases hx; exact h
  · next c rest _ => exact exec_eventsOk (s := { s with pending := rest }) h hx

/-- Settles O15: both commands are answered OK with no result bytes, each after its one action. -/
theorem watchAndUnwatch : Obligations.WatchAndUnwatch := by
  intro i s ready
  refine ⟨exec_answers ready (act := fun s => ⟨.ok, [], { s with table.watch := put s.table.watch i true }⟩) rfl rfl, ?_⟩
  have answered : exec (.unwatch i) s = .next ((s.unwatch i).replied 0 []) :=
    exec_answers ready (act := fun s => ⟨.ok, [], s.unwatch i⟩) rfl rfl
  rw [State.unwatch_eq] at answered
  exact answered

/-- Settles O4, by the room in the queue and in the count. -/
theorem postedEventJoinsTailOrIsCounted : Obligations.PostedEventJoinsTailOrIsCounted := by
  refine fun s e => ⟨fun room => ?_, fun full below => ?_, fun full top => ?_⟩ <;> unfold State.post
  · rw [HostPort.post_room room]
  · rw [HostPort.post_full full.ge, Nat.min_eq_right below]
  · have capped : min 255 (s.port.lost + 1) = s.port.lost := by omega
    rw [HostPort.post_full full.ge, capped]

end Sys2Proof

/-! ## Configuration and start-up: the millisecond on an empty queue, and what no command touches

The laws first, in the order of the model; the statements follow at the end. -/

namespace Sys2Proof.Machine

/-! ### The surroundings of the blocks

The commands read and write the blocks. The straps, the millisecond clock and the queue of commands stand around them: every
operation below the commands leaves all three, and a hard reset alone samples the straps again. -/

/-- What stands around the blocks (R195, R202, log 4). -/
structure Surroundings where
  straps  : Straps
  clock   : Nat
  pending : List Instr

def State.surroundings (s : State) : Surroundings := ⟨s.straps, s.clock, s.pending⟩

theorem State.surroundings_eq_iff {s : State} {v : Surroundings} :
    s.surroundings = v ↔ s.straps = v.straps ∧ s.clock = v.clock ∧ s.pending = v.pending := by
  cases v
  simp [State.surroundings]

/-- Both branches of a choice leave the same surroundings. -/
theorem State.surroundings_ite {p : Prop} [Decidable p] {a b : State} {v : Surroundings} (ha : a.surroundings = v)
    (hb : b.surroundings = v) : (if p then a else b).surroundings = v := by
  split <;> assumption

section
variable (s : State)

/-! #### Events and state changes -/

@[simp] theorem State.post_surroundings (e : Event) : (s.post e).surroundings = s.surroundings := rfl

@[simp] theorem State.noteChange_surroundings (i : Index) (x : Station) : (s.noteChange i x).surroundings = s.surroundings := by
  obtain h | ⟨_, _, _, h⟩ | ⟨_, _, _, h⟩ := s.noteChange_cases i x <;> rw [h] <;> rfl

@[simp] theorem State.endServing_surroundings (why : EndReason) : (s.endServing why).surroundings = s.surroundings := by
  rw [State.endServing_eq, State.postAll_eq]; rfl

@[simp] theorem State.leaveSynced_surroundings (cause : Cause) : (s.leaveSynced cause).surroundings = s.surroundings := by
  rw [State.leaveSynced_eq, State.outOfSynced, State.postAll_eq]; rfl

@[simp] theorem State.goIdle_surroundings : s.goIdle.surroundings = s.surroundings := by
  rw [State.goIdle_eq, State.nowIdle, State.postAll_eq]; rfl

@[simp] theorem State.found_surroundings : s.found.surroundings = s.surroundings := rfl

@[simp] theorem State.retry_surroundings (next : Segment) (attempts : Nat) :
    (s.retry next attempts).surroundings = s.surroundings := State.surroundings_ite rfl rfl

@[simp] theorem State.joinerLost_surroundings (x : Station) : (s.joinerLost x).surroundings = s.surroundings := by
  unfold State.joinerLost
  split <;> [exact State.surroundings_ite (s.endServing_surroundings _) rfl; rfl]

@[simp] theorem State.donorLost_surroundings (x : Station) : (s.donorLost x).surroundings = s.surroundings := by
  unfold State.donorLost
  split <;> [exact State.surroundings_ite (State.retry_surroundings _ _ _) rfl; rfl]

@[simp] theorem State.loseTransfers_surroundings (x : Station) : (s.loseTransfers x).surroundings = s.surroundings := by
  simp [State.loseTransfers_parts]

/-! #### The acts of the closes -/

@[simp] theorem State.hearEvidence_surroundings : s.hearEvidence.surroundings = s.surroundings := by
  rw [State.hearEvidence_eq]; exact State.surroundings_ite rfl rfl

@[simp] theorem State.countFrame_surroundings (bytes : List Byte) : (s.countFrame bytes).surroundings = s.surroundings := by
  unfold State.countFrame
  split <;> [exact State.surroundings_ite rfl rfl; exact State.surroundings_ite rfl rfl; rfl]

@[simp] theorem State.applyEvaluation_surroundings (cl : Closing) (i : Index) (out : Option (Result × Rec)) :
    (s.applyEvaluation cl i out).surroundings = s.surroundings := by
  unfold State.applyEvaluation
  split <;> [rfl; exact State.surroundings_ite (State.noteChange_surroundings _ _ _) rfl]

@[simp] theorem State.settleHead_surroundings (r : Result) (v : Half) : (s.settleHead r v).surroundings = s.surroundings := by
  unfold State.settleHead; split <;> rfl

@[simp] theorem State.settleEvaluation_surroundings (cl : Closing) (out : Option (Result × Rec)) :
    (s.settleEvaluation cl out).surroundings = s.surroundings := by
  unfold State.settleEvaluation
  split <;> [rfl; exact State.surroundings_ite (s.settleHead_surroundings _ _) rfl]

theorem State.failHead_surroundings : s.failHead.surroundings = s.surroundings := by
  unfold State.failHead
  split <;> [rfl; (refine State.surroundings_ite rfl ?_; split <;> rfl)]

theorem State.evictPeer_surroundings (target sender : Station) : (s.evictPeer target sender).surroundings = s.surroundings :=
  State.surroundings_ite rfl (State.loseTransfers_surroundings _ target)

theorem State.hearPeer_surroundings (x : Station) (state interval : Byte) (c : Carried) :
    (s.hearPeer x state interval c).surroundings = s.surroundings :=
  State.surroundings_ite rfl (State.surroundings_ite rfl rfl)

theorem State.setRelation_surroundings (x : Station) (r : Relation) : (s.setRelation x r).surroundings = s.surroundings :=
  State.surroundings_ite rfl rfl

theorem State.hearLower_surroundings (x : Station) (r : Option Reported) : (s.hearLower x r).surroundings = s.surroundings :=
  State.surroundings_ite rfl rfl

theorem State.weighPresence_surroundings (x : Station) (r : Option Reported) (c : Carried) :
    (s.weighPresence x r c).surroundings = s.surroundings := by
  have related (r : Relation) := s.setRelation_surroundings x r
  unfold State.weighPresence
  split
  · refine State.surroundings_ite ?_ (related _)
    unfold State.compareWith
    split <;> [exact s.leaveSynced_surroundings _; exact related _; exact related _]
  · refine Eq.trans ?_ (related .unknown)
    exact State.surroundings_ite (State.hearEvidence_surroundings _) (State.hearLower_surroundings _ _ _)
  · refine Eq.trans ?_ (related .unknown)
    exact State.surroundings_ite rfl (State.hearLower_surroundings _ _ _)
  · exact related _

theorem State.requestSent_surroundings : s.requestSent.surroundings = s.surroundings := by
  unfold State.requestSent
  split <;> [exact State.surroundings_ite rfl rfl; rfl]

theorem State.answerRequest_surroundings (j : Station) (k : Segment) : (s.answerRequest j k).surroundings = s.surroundings := by
  have ended : (s.reRequested j).surroundings = s.surroundings := by
    unfold State.reRequested
    split <;> [exact State.surroundings_ite (s.endServing_surroundings _) rfl; rfl]
  exact State.surroundings_ite (State.surroundings_ite ended ended) rfl

theorem State.withdrawOffer_surroundings (j : Station) : (s.withdrawOffer j).surroundings = s.surroundings := by
  unfold State.withdrawOffer
  split <;> [exact State.surroundings_ite rfl rfl; rfl]

theorem State.takeOffer_surroundings (x j : Station) (k : Segment) : (s.takeOffer x j k).surroundings = s.surroundings := by
  unfold State.takeOffer
  split <;> [exact State.surroundings_ite rfl rfl; rfl]

theorem State.settleSegment_surroundings : s.settleSegment.surroundings = s.surroundings := by
  unfold State.settleSegment
  split <;> [rfl; (split <;> [rfl; exact s.endServing_surroundings _])]

theorem State.failSegment_surroundings : s.failSegment.surroundings = s.surroundings := by
  unfold State.failSegment
  split <;> [rfl; exact State.surroundings_ite rfl (s.endServing_surroundings _)]

theorem State.acceptSegment_surroundings (d : Station) (k : Segment) (rs : Vector Rec 16) (attempts : Nat) :
    (s.acceptSegment d k rs attempts).surroundings = s.surroundings := by
  unfold State.acceptSegment
  dsimp only
  split <;> [rfl; exact State.surroundings_ite rfl rfl]

theorem State.receiveSegment_surroundings (x j : Station) (k : Segment) (c : Carried) (rs : Vector Rec 16) :
    (s.receiveSegment x j k c rs).surroundings = s.surroundings := by
  unfold State.receiveSegment
  split
  · refine State.surroundings_ite (State.surroundings_ite ?_ (State.surroundings_ite ?_ ?_)) rfl
    · exact State.acceptSegment_surroundings _ _ _ _ _
    · exact State.acceptSegment_surroundings _ _ _ _ _
    · exact State.retry_surroundings _ _ _
  · rfl

theorem actPresence_surroundings (cl : Closing) : (actPresence cl s).surroundings = s.surroundings := by
  unfold actPresence
  split
  · exact State.surroundings_ite rfl ((State.weighPresence_surroundings _ _ _ _).trans (s.hearPeer_surroundings _ _ _ _))
  · rfl

theorem actUpdate_surroundings (cl : Closing) : (actUpdate cl s).surroundings = s.surroundings := by
  unfold actUpdate
  split <;> simp

theorem actWipe_surroundings (cl : Closing) : (actWipe cl s).surroundings = s.surroundings := by
  unfold actWipe
  split
  · dsimp only
    split <;> [exact State.endServing_surroundings _ _; rfl; exact State.hearEvidence_surroundings _]
  · rfl

theorem actEvict_surroundings (cl : Closing) : (actEvict cl s).surroundings = s.surroundings := by
  unfold actEvict
  split
  · refine (State.evictPeer_surroundings _ _ _).trans ((State.countFrame_surroundings _ _).trans ?_)
    exact s.hearEvidence_surroundings
  · rfl

theorem actSyncRequest_surroundings (cl : Closing) : (actSyncRequest cl s).surroundings = s.surroundings := by
  unfold actSyncRequest
  split <;> [exact State.surroundings_ite s.requestSent_surroundings (s.answerRequest_surroundings _ _); rfl]

theorem actOffer_surroundings (cl : Closing) : (actOffer cl s).surroundings = s.surroundings := by
  have heard := s.hearEvidence_surroundings
  unfold actOffer
  split
  · refine State.surroundings_ite ((State.surroundings_ite rfl rfl : (State.beginServing _ _ _).surroundings = _).trans heard) ?_
    exact (State.takeOffer_surroundings _ _ _ _).trans ((State.withdrawOffer_surroundings _ _).trans heard)
  · rfl

theorem actSnapshot_surroundings (cl : Closing) : (actSnapshot cl s).surroundings = s.surroundings := by
  have heard := s.hearEvidence_surroundings
  unfold actSnapshot
  split
  · exact State.surroundings_ite ((State.settleSegment_surroundings _).trans heard)
      ((State.receiveSegment_surroundings _ _ _ _ _ _).trans heard)
  · rfl

/-- The acts of every close leave the surroundings. -/
theorem closeAct_surroundings (k : Kind) (cl : Closing) : (closeAct k cl s).surroundings = s.surroundings := by
  cases k with
  | presence => exact actPresence_surroundings s cl
  | update => exact actUpdate_surroundings s cl
  | wipe => exact actWipe_surroundings s cl
  | evict => exact actEvict_surroundings s cl
  | syncRequest => exact actSyncRequest_surroundings s cl
  | offer => exact actOffer_surroundings s cl
  | snapshot => exact actSnapshot_surroundings s cl

/-! #### The line and the ends of frames -/

theorem State.offer_surroundings : s.offer.surroundings = s.surroundings := by
  have drives (f : Frame) : (s.drive f).surroundings = s.surroundings := by cases f <;> rfl
  refine State.surroundings_ite rfl (State.surroundings_ite rfl ?_)
  split <;> [exact drives _; rfl]

theorem State.regain_surroundings (how : StepGain) : (s.regain how).surroundings = s.surroundings := by
  cases how <;> rfl

theorem State.losePlace_surroundings (how : PlaceLoss) : (s.losePlace how).surroundings = s.surroundings :=
  State.surroundings_ite (State.leaveSynced_surroundings _ _) rfl

theorem State.badClose_surroundings (rejecting : Bool) : (s.badClose rejecting).surroundings = s.surroundings :=
  State.surroundings_ite rfl (State.surroundings_ite (State.leaveSynced_surroundings _ _) rfl)

theorem State.settleDiscarded_surroundings (f : Frame) : (s.settleDiscarded f).surroundings = s.surroundings := by
  cases f with
  | update => exact s.failHead_surroundings
  | snapshot => exact s.failSegment_surroundings
  | _ => rfl

theorem State.spoiledClose_surroundings (f : Frame) : (s.spoiledClose f).surroundings = s.surroundings := by
  have raised (t : State) : t.raiseSpoil.surroundings = t.surroundings :=
    State.surroundings_ite (State.surroundings_ite rfl rfl) rfl
  exact (raised _).trans (State.settleDiscarded_surroundings _ f)

theorem State.rejectedClose_surroundings (cl : Closing) : (s.rejectedClose cl).surroundings = s.surroundings :=
  State.surroundings_ite (State.settleDiscarded_surroundings _ _) rfl

theorem State.afterOwnClose_surroundings (own : Bool) : (s.afterOwnClose own).surroundings = s.surroundings :=
  State.surroundings_ite s.goIdle_surroundings rfl

variable {s} in
/-- The levels of the line leave the surroundings. -/
theorem State.heard_surroundings {u : State} {line : Levels} {event : LineEvent} (h : s.heard line = some (event, u)) :
    u.surroundings = s.surroundings := by
  rw [State.heard_keeps h]; rfl

variable {s} in
theorem State.closing_surroundings {u : State} {line : Levels} {e : Ending} (h : s.closing line = some (e, u)) :
    u.surroundings = s.surroundings := State.heard_surroundings (State.closing_heard h).1

theorem State.closeCommitted_surroundings (line : Levels) (k : Kind) :
    (s.closeCommitted line k (closeAct k)).surroundings = s.surroundings := by
  obtain h | ⟨cl, u, hcl, -, ended⟩ := s.closeCommitted_cases line k (closeAct k)
  · rw [h]
  · have closed := State.closing_surroundings hcl
    obtain ⟨-, h⟩ | ⟨-, h⟩ := ended <;> rw [h]
    · exact closed
    · exact (State.afterOwnClose_surroundings _ _).trans ((closeAct_surroundings _ k cl).trans closed)

/-! #### The timers -/

theorem State.endListenWindow_surroundings : s.endListenWindow.surroundings = s.surroundings := by
  unfold State.endListenWindow
  split <;> [exact State.surroundings_ite rfl rfl; exact State.surroundings_ite rfl rfl; rfl]

theorem State.expireWatch_surroundings (x : Station) : (s.expireWatch x).surroundings = s.surroundings := by
  have missed (misses : Nat) : (s.missPeer x misses).surroundings = s.surroundings :=
    State.surroundings_ite rfl (State.loseTransfers_surroundings _ x)
  unfold State.expireWatch
  split <;> [rfl; exact State.loseTransfers_surroundings _ x; exact missed _; exact missed _]

/-! #### The host's commands -/

variable {s} in
/-- A host command leaves the surroundings as its own action does. -/
theorem State.takeCommand_surroundings {act : State → Reply} (n : Nat) (h : (act s).state.surroundings = s.surroundings) :
    (s.takeCommand n act).surroundings = s.surroundings := by
  unfold State.takeCommand
  dsimp only
  refine State.surroundings_ite ?_ rfl
  split <;> [rfl; exact h]

theorem changeReply_surroundings (op : Op) (i : Index) : (changeReply op i s).state.surroundings = s.surroundings := by
  obtain h | ⟨-, -, h⟩ := changeReply_cases op i s
  · rw [h]
  · rw [h]; rfl

theorem configureReply_surroundings (o : ConfigOperands) : (configureReply o s).state.surroundings = s.surroundings := by
  unfold configureReply; split <;> [rfl; (split <;> rfl)]

theorem joinReply_surroundings : (joinReply s).state.surroundings = s.surroundings := by
  unfold joinReply; split <;> rfl

theorem leaveReply_surroundings : (leaveReply s).state.surroundings = s.surroundings := by
  unfold leaveReply
  split <;> [rfl; (split <;> [rfl; (split <;> [rfl; exact s.goIdle_surroundings])])]

theorem setInterruptsReply_surroundings (events completions : Byte) :
    (setInterruptsReply events completions s).state.surroundings = s.surroundings := by
  unfold setInterruptsReply; split <;> [rfl; (split <;> rfl)]

theorem wipeReply_surroundings : (wipeReply s).state.surroundings = s.surroundings := by
  unfold wipeReply; split <;> [rfl; (split <;> rfl)]

theorem resumeReply_surroundings : (resumeReply s).state.surroundings = s.surroundings := by
  unfold resumeReply; split <;> rfl

theorem discardHeadReply_surroundings : (discardHeadReply s).state.surroundings = s.surroundings := by
  unfold discardHeadReply; split <;> rfl

theorem takeCompletionReply_surroundings : (takeCompletionReply s).state.surroundings = s.surroundings := by
  unfold takeCompletionReply; split <;> rfl

theorem takeEventReply_surroundings : (takeEventReply s).state.surroundings = s.surroundings := by
  have dropped (e : Event) (rest : List Event) : (s.dropEvent e rest).surroundings = s.surroundings := by cases e <;> rfl
  unfold takeEventReply
  split <;> [rfl; exact dropped _ _]

theorem readPeerReply_surroundings (number : Byte) : (readPeerReply number s).state.surroundings = s.surroundings := by
  unfold readPeerReply; split <;> rfl

/-! #### Every command -/

/-- Every command answers a next state (logs 6 and 24). -/
theorem exec_answers_next (c : Instr) : ∃ t, exec c s = .next t := by
  cases c <;> exact ⟨_, rfl⟩

variable {s} in
/-- A hard reset samples the straps and leaves the rest of the surroundings; every other command leaves them all (R195). -/
theorem exec_surroundings {c : Instr} {t : State} (h : exec c s = .next t) :
    (∃ sn br low, c = .hardReset sn br low ∧
      t.surroundings = { s.surroundings with straps := ⟨sn.toFin, bitRateOf br⟩ }) ∨
      t.surroundings = s.surroundings := by
  have close (k : Kind) (line : Levels) (hk : exec (closeOf k line) s = .next t) : t.surroundings = s.surroundings := by
    cases hk.symm.trans (exec_closeOf_act s k line)
    exact s.closeCommitted_surroundings line k
  cases c
  case hardReset sn br low =>
    cases h
    exact .inl ⟨sn, br, low, rfl, rfl⟩
  all_goals right
  case updateClose line => exact close .update line h
  case evictClose line => exact close .evict line h
  case wipeClose line => exact close .wipe line h
  case presenceClose line => exact close .presence line h
  case syncRequestClose line => exact close .syncRequest line h
  case offerClose line => exact close .offer line h
  case snapshotClose line => exact close .snapshot line h
  all_goals obtain rfl := Host.Outcome.next.inj h
  case startUpClearComplete => exact State.surroundings_ite rfl rfl
  case transactionStart => exact State.surroundings_ite rfl rfl
  case transactionTruncated => split <;> [exact State.surroundings_ite rfl rfl; rfl; rfl]
  case transactionEnd => split <;> rfl
  case status => exact State.surroundings_ite rfl rfl
  case configure => exact State.takeCommand_surroundings _ (configureReply_surroundings s _)
  case join => exact State.takeCommand_surroundings _ (joinReply_surroundings s)
  case leave => exact State.takeCommand_surroundings _ (leaveReply_surroundings s)
  case readRecord => exact State.takeCommand_surroundings _ rfl
  case write => exact State.takeCommand_surroundings _ (changeReply_surroundings s _ _)
  case cswap => exact State.takeCommand_surroundings _ (changeReply_surroundings s _ _)
  case claim => exact State.takeCommand_surroundings _ (changeReply_surroundings s _ _)
  case release => exact State.takeCommand_surroundings _ (changeReply_surroundings s _ _)
  case wipe => exact State.takeCommand_surroundings _ (wipeReply_surroundings s)
  case resume => exact State.takeCommand_surroundings _ (resumeReply_surroundings s)
  case discardHead => exact State.takeCommand_surroundings _ (discardHeadReply_surroundings s)
  case takeCompletion => exact State.takeCommand_surroundings _ (takeCompletionReply_surroundings s)
  case takeEvent => exact State.takeCommand_surroundings _ (takeEventReply_surroundings s)
  case readPeer => exact State.takeCommand_surroundings _ (readPeerReply_surroundings s _)
  case watch => exact State.takeCommand_surroundings _ rfl
  case unwatch => exact State.takeCommand_surroundings _ rfl
  case setInterrupts => exact State.takeCommand_surroundings _ (setInterruptsReply_surroundings s _ _)
  case badCommand => exact State.surroundings_ite rfl (State.takeCommand_surroundings _ rfl)
  case offerPoint =>
    split
    · next u hu => exact u.offer_surroundings.trans (State.heard_surroundings hu)
    · rfl
  case lostArbitration =>
    split
    · next u hu =>
      have heard := State.heard_surroundings hu
      split
      · exact State.surroundings_ite ((State.goIdle_surroundings _).trans heard) heard
      · rfl
    · rfl
  case spoiledFrame =>
    split
    · next u hu =>
      have heard := State.heard_surroundings hu
      split <;> [exact heard; rfl]
    · rfl
  case lostPlace =>
    split
    · next how u hu => exact (u.losePlace_surroundings how).trans (State.heard_surroundings hu)
    · rfl
  case regainStep =>
    split
    · next how u hu => exact (u.regain_surroundings how).trans (State.heard_surroundings hu)
    · rfl
  case badFrameClose =>
    split
    · next rejecting u hcl =>
      have closed := State.closing_surroundings hcl
      exact State.surroundings_ite ((u.badClose_surroundings rejecting).trans closed) closed
    · rfl
  case discardedClose =>
    split
    · next cl spoiled u hcl =>
      have closed := State.closing_surroundings hcl
      refine State.surroundings_ite ((State.afterOwnClose_surroundings _ _).trans ?_) closed
      exact (State.surroundings_ite (u.spoiledClose_surroundings _) (u.rejectedClose_surroundings _)).trans closed
    · rfl
  case listenTimerExpiry => exact State.surroundings_ite s.endListenWindow_surroundings rfl
  case presenceTimer => exact State.surroundings_ite rfl rfl
  case offerTimerExpiry =>
    refine State.surroundings_ite ?_ rfl
    split <;> [exact s.retry_surroundings _ _; rfl]
  case segmentTimerExpiry =>
    refine State.surroundings_ite ?_ rfl
    split <;> [exact State.retry_surroundings _ _ _; rfl]
  case watchTimerExpiry x => exact State.surroundings_ite (s.expireWatch_surroundings x) rfl

end

/-! ### The events of a millisecond (R197, R201, R202) -/

/-- The events that a millisecond can bring about, in the order of the fixed listing. -/
def timedEvents : List Instr :=
  [.startUpClearComplete, .listenTimerExpiry, .presenceTimer, .offerTimerExpiry, .segmentTimerExpiry]
    ++ (List.finRange 16).map .watchTimerExpiry

/-- The event falls due with this millisecond. -/
def State.isDue (s : State) : Instr → Bool
  | .startUpClearComplete => s.port.starting
  | .listenTimerExpiry    => fallsDue s.sync.listenTimer
  | .presenceTimer        => fallsDue s.peers.presenceTimer
  | .offerTimerExpiry     => fallsDue s.sync.offerTimer
  | .segmentTimerExpiry   => fallsDue s.sync.segmentTimer
  | .watchTimerExpiry x   => fallsDue s.peers.entries[x].watchTimer
  | _                     => false

theorem timedEvents_nodup : timedEvents.Nodup := by decide

theorem fallsDue_iff (t : Timer) : fallsDue t = true ↔ t = some 1 := decide_eq_true_iff

/-- What `isDue` says of each event; a command of the host or of the line is never due. -/
theorem State.isDue_iff (s : State) (c : Instr) :
    s.isDue c = true ↔
      (c = .startUpClearComplete ∧ s.port.starting = true) ∨
      (c = .listenTimerExpiry ∧ s.sync.listenTimer = some 1) ∨
      (c = .presenceTimer ∧ s.peers.presenceTimer = some 1) ∨
      (c = .offerTimerExpiry ∧ s.sync.offerTimer = some 1) ∨
      (c = .segmentTimerExpiry ∧ s.sync.segmentTimer = some 1) ∨
      (∃ x : Station, c = .watchTimerExpiry x ∧ s.peers.entries[x].watchTimer = some 1) := by
  cases c <;> simp [State.isDue, fallsDue_iff]

/-- What falls due is one of the listing. -/
theorem State.isDue_listed {s : State} {c : Instr} (h : s.isDue c = true) : c ∈ timedEvents := by
  obtain ⟨rfl, -⟩ | ⟨rfl, -⟩ | ⟨rfl, -⟩ | ⟨rfl, -⟩ | ⟨rfl, -⟩ | ⟨x, rfl, -⟩ := (s.isDue_iff c).mp h
  all_goals simp [timedEvents]

/-- An event of the listing and its entry among the events due: present together, or absent together. -/
theorem filter_cons_entry (due : Instr → Bool) (n : Nat) (c : Instr) (rest : List Instr) :
    (c :: rest).filter due = (if due c then [(n, c)] else []).map Prod.snd ++ rest.filter due := by
  cases h : due c <;> simp [h]

/-- The events due, without their numbers, are those of the listing that fall due. -/
theorem State.dueEvents_map_snd (s : State) : s.dueEvents.map Prod.snd = timedEvents.filter s.isDue := by
  have watched : ((List.finRange 16).map .watchTimerExpiry).filter s.isDue =
      (((List.finRange 16).filter fun x => s.isDue (.watchTimerExpiry x)).map
        fun x => (5 + x.val, Instr.watchTimerExpiry x)).map Prod.snd := by
    rw [List.map_map, List.filter_map]
    rfl
  simp only [timedEvents, List.cons_append, List.nil_append]
  rw [filter_cons_entry s.isDue 0, filter_cons_entry s.isDue 1, filter_cons_entry s.isDue 2, filter_cons_entry s.isDue 3,
    filter_cons_entry s.isDue 4, watched]
  simp only [← List.append_assoc, ← List.map_append]
  rfl

theorem insertByRank_perm (rank : Nat → Nat) (e : Nat × Instr) (l : List (Nat × Instr)) :
    (insertByRank rank e l).Perm (e :: l) := by
  induction l with
  | nil => exact .refl _
  | cons d rest ih =>
    unfold insertByRank
    split
    · exact .refl _
    · exact (ih.cons d).trans (.swap e d rest)

/-- The ranks give the events an order, and neither drop nor repeat one (log 4). -/
theorem orderByRank_perm (rank : Nat → Nat) (l : List (Nat × Instr)) : (orderByRank rank l).Perm l := by
  induction l with
  | nil => exact .refl _
  | cons e rest ih => exact (insertByRank_perm rank e _).trans (ih.cons e)

/-- The events due, in the order of their ranks, are those of the listing that fall due, each once. -/
theorem State.ordered_perm (s : State) (rank : Nat → Nat) :
    ((orderByRank rank s.dueEvents).map Prod.snd).Perm (timedEvents.filter s.isDue) :=
  s.dueEvents_map_snd ▸ (orderByRank_perm rank s.dueEvents).map Prod.snd

end Sys2Proof.Machine

namespace Sys2Proof

open Machine

/-! ### The statements -/

/-- Settles O2: whatever the free ranks, what joins the empty queue is a permutation of the listed events that fall due. -/
theorem emptyQueuePassesOneMillisecond : Obligations.EmptyQueuePassesOneMillisecond := by
  intro s empty
  have due := s.ordered_perm (Config.expiryRank s.clock)
  refine ⟨_, ?_, due.nodup_iff.mpr (timedEvents_nodup.filter _), fun c => ?_⟩
  · rw [step, empty, State.tick, empty]
    rfl
  · rw [due.mem_iff, List.mem_filter, and_iff_right_of_imp State.isDue_listed, State.isDue_iff]

/-- Settles O3: the surroundings of the blocks are left by every command, the straps by all but the hard reset. -/
theorem commandsAnswerAndKeepStraps : Obligations.CommandsAnswerAndKeepStraps := by
  intro c s
  obtain ⟨t, answers⟩ := exec_answers_next s c
  obtain ⟨sn, br, low, reset, kept⟩ | kept := exec_surroundings answers <;>
    obtain ⟨straps, clock, pending⟩ := State.surroundings_eq_iff.mp kept <;>
    refine ⟨t, answers, pending, clock, fun other => ?_⟩
  · exact absurd reset (other sn br low)
  · exact straps

end Sys2Proof
